-- ==== Sys2Proof/Word.lean ====
section
/-! DEFINITION. The words of the CORE: its bit, its command word, its registers' widths (rules R4, R10, R45). -/

namespace Sys2Proof

/-- A bit (rule R5): `true` is 1, `false` is 0. DESIGN CHOICE (log entry 8, safe). -/
abbrev Bit := Bool

/-- A command word `W[7:0]` (rule R45). -/
abbrev CmdWord := BitVec 8

/-- R1 and I1, 19 bits (rule R10); bit i is position i (rule R5). -/
abbrev Reg1 := BitVec 19

/-- R2 and I2, 22 bits (rule R10). -/
abbrev Reg2 := BitVec 22

/-- R3 and I3, 23 bits (rule R10). -/
abbrev Reg3 := BitVec 23

/-- The key buffer KB, 64 bits (rules R10, R13); bit i is the i-th key bit. -/
abbrev KeyBits := BitVec 64

/-- The key bit counter KC, 7 bits (rules R10, R13). -/
abbrev Counter := BitVec 7

end Sys2Proof
end

