-- ==== Sys2Proof/Syntax.lean ====
section
/-! DEFINITION. The nine commands of T016-CMD version 1 (rules R46, R48) and the two outcomes of decoding (rule R49). -/

namespace Sys2Proof

/-- The two command formats (rule R46): Z has no operand, D has the one data bit `d`. -/
inductive Format where
  | z
  | d
  deriving DecidableEq, Repr

/-- The commands: one constructor per row of the opcode table (rule R48). The only operand of any command is the bit
`d = W[0]` (rule R47). -/
inductive Instr where
  /-- idle (rule R60) -/
  | nop
  /-- restart key entry (rule R61) -/
  | kclr
  /-- enter the next key bit (rule R62) -/
  | kbit (d : Bit)
  /-- end key entry (rule R63) -/
  | kend
  /-- message reset (rule R70) -/
  | reset
  /-- majority vote (rule R72) -/
  | maj
  /-- one clocking step (rule R87) -/
  | step
  /-- encrypt one bit (rule R96) -/
  | enc (d : Bit)
  /-- decrypt one bit (rule R97) -/
  | dec (d : Bit)
  deriving DecidableEq, Repr

/-- Why a word is no command. Rule R49 has the one verdict Illegal; the three names are the three groups that rule R50
lists. DESIGN CHOICE (log entry 9, safe): all three have the same effect. -/
inductive Reject where
  /-- `W[3:1]` is not 000 -/
  | reservedBits
  /-- `op` is one of 0111, 1010 to 1111 -/
  | reservedOpcode
  /-- a format Z opcode with `W[0] = 1` -/
  | operandInFormatZ
  deriving DecidableEq, Repr

/-- What a word decodes to (rule R49). -/
inductive Decoded where
  | command (i : Instr)
  | illegal (why : Reject)
  deriving DecidableEq, Repr

end Sys2Proof
end

