-- ==== Sys2Proof/WellFormed.lean ====
section
/-! DEFINITION. Which command words are well formed, written from the field rules R45 to R48, apart from the decoder.
A term of `Instr` needs no check of its own: its one operand is a bit by its type (rule R47). What can be ill formed is
a word, in the three ways that rule R50 lists; there is one check for each. -/

namespace Sys2Proof

/-- The reserved field `W[3:1]` is zero (rule R45). -/
def reservedClear (w : CmdWord) : Bool := w &&& 0x0E == 0

/-- The opcode field `W[7:4]` is one of the nine that rule R48 assigns. -/
def opcodeAssigned (w : CmdWord) : Bool := [0, 1, 2, 3, 4, 5, 6, 8, 9].contains (w >>> 4).toNat

/-- `W[0]` is 0 unless the opcode is one of the three of format D (rule R46). -/
def operandAllowed (w : CmdWord) : Bool := w &&& 1 == 0 || [2, 8, 9].contains (w >>> 4).toNat

/-- A legal command word (rule R48: there are exactly 12). -/
def legalWord (w : CmdWord) : Bool := reservedClear w && opcodeAssigned w && operandAllowed w

end Sys2Proof
end

