-- ==== Sys2Proof/Decode.lean ====
section
/-! DEFINITION. The decoder (rule R49), total on all 256 words and reading no state, and after it the encoder written
from the opcode map (rule R48). -/

namespace Sys2Proof

/-- `op = W[7:4]` (rule R45). -/
def opField (w : CmdWord) : BitVec 4 := w.extractLsb' 4 4

/-- `zero = W[3:1]` (rule R45). -/
def zeroField (w : CmdWord) : BitVec 3 := w.extractLsb' 1 3

/-- `d = W[0]`, used as it stands (rules R45, R47). -/
def dField (w : CmdWord) : Bit := w.getLsbD 0

/-- A format Z command needs `W[0] = 0` (rule R46). -/
def decodeZ (d : Bit) (i : Instr) : Decoded :=
  if d then .illegal .operandInFormatZ else .command i

/-- The command an opcode selects, given the operand bit (rules R48, R49). -/
def decodeOp (op : BitVec 4) (d : Bit) : Decoded :=
  match op.toNat with
  | 0 => decodeZ d .nop
  | 1 => decodeZ d .kclr
  | 2 => .command (.kbit d)
  | 3 => decodeZ d .kend
  | 4 => decodeZ d .reset
  | 5 => decodeZ d .maj
  | 6 => decodeZ d .step
  | 8 => .command (.enc d)
  | 9 => .command (.dec d)
  | _ => .illegal .reservedOpcode

/-- The decoder (rule R49). -/
def decode (w : CmdWord) : Decoded :=
  if zeroField w = 0 then decodeOp (opField w) (dField w) else .illegal .reservedBits

/-- Whether decoding refuses the word. -/
def isIllegal (w : CmdWord) : Bool :=
  match decode w with
  | .command _ => false
  | .illegal _ => true

/-- The format of a command (rule R46), decided by its opcode alone. -/
def Instr.format : Instr → Format
  | .kbit _ => .d
  | .enc _ => .d
  | .dec _ => .d
  | .nop => .z
  | .kclr => .z
  | .kend => .z
  | .reset => .z
  | .maj => .z
  | .step => .z

/-- The opcode of a command (rule R48, column `op`). -/
def Instr.opcode : Instr → BitVec 4
  | .nop => 0b0000
  | .kclr => 0b0001
  | .kbit _ => 0b0010
  | .kend => 0b0011
  | .reset => 0b0100
  | .maj => 0b0101
  | .step => 0b0110
  | .enc _ => 0b1000
  | .dec _ => 0b1001

/-- The bit that stands in `W[0]`: the operand of format D, 0 in format Z (rule R46). -/
def Instr.operand : Instr → Bit
  | .kbit d => d
  | .enc d => d
  | .dec d => d
  | .nop => false
  | .kclr => false
  | .kend => false
  | .reset => false
  | .maj => false
  | .step => false

/-- The encoder: the three fields of rule R45 side by side. -/
def encode (i : Instr) : CmdWord := i.opcode ++ (0 : BitVec 3) ++ BitVec.ofBool i.operand

/-- The mask of a format (rule R46). -/
def Format.mask : Format → CmdWord
  | .z => 0xFF
  | .d => 0xFE

/-- The match value of a command's row (rule R48). -/
def Instr.matchBits (i : Instr) : CmdWord := i.opcode ++ (0 : BitVec 4)

/-- The command word whose bits are `w`, numbered as the opcode table numbers them; the bits from `nbits` on are 0.
Every row has 8 bits and no command is longer (rule R51), so bits 7 to 0 are the whole word (log entry 12). -/
def tableWord (nbits w : Nat) : CmdWord := BitVec.ofNat 8 (w % 2 ^ nbits)

/-- What the decoder reads from an instruction whose bits are `w`. -/
def decodeTableWord (nbits w : Nat) : Option Instr :=
  match decode (tableWord nbits w) with
  | .command i => some i
  | .illegal _ => none

end Sys2Proof
end

