-- ==== Sys2Proof/Machine/Params.lean ====
section
/-! DEFINITION. The parameter table of rule R4: fixed constants of the hardware, not state (rule R16). The register
lengths 19, 22, 23 and the widths CMDW = 8, KCW = 7 stand in the types of Sys2Proof/Word.lean; FLTW = 3 in the type of
`faultCode`. -/

namespace Sys2Proof.Machine

/-- `KEYLEN` (rule R4). -/
def keyLen : Nat := 64

/-- The saturation value of KC: more than 64 bits were entered (rules R4, R13). -/
def kcTooMany : Counter := 65

/-- `TAPS1` (rule R4). -/
def taps1 : List Nat := [13, 16, 17, 18]

/-- `TAPS2` (rule R4). -/
def taps2 : List Nat := [20, 21]

/-- `TAPS3` (rule R4). -/
def taps3 : List Nat := [7, 20, 21, 22]

/-- `CLK1` (rule R4). One list of positions serves the vote and the clock gate (U1, C7). -/
def clk1 : Nat := 8

/-- `CLK2` (rule R4). -/
def clk2 : Nat := 10

/-- `CLK3` (rule R4). -/
def clk3 : Nat := 10

/-- `OUT1`, the highest index of R1 (rule R4). -/
def out1 : Nat := 18

/-- `OUT2` (rule R4). -/
def out2 : Nat := 21

/-- `OUT3` (rule R4). -/
def out3 : Nat := 22

end Sys2Proof.Machine
end

