-- ==== Sys2Proof/Config.lean ====
section
/-! DEFINITION. The free values of the model: the named parameter POWER_ON_CONTENTS (D13 and U12 of spec/).
Rule R125: after a hardware reset event KB, I1 to I3 and R1 to R3 are unspecified. Each is an opaque function of the
State's counter `draws`; nothing can be proved of a value of it. Marked DESIGN CHOICE in log entry 2, safe.
The fixed parameters of rule R4 stand in Sys2Proof/Machine/Params.lean. -/

namespace Sys2Proof

/-- What KB holds after the n-th hardware reset event (rule R125: unspecified). -/
opaque Config.powerOnKB : Nat → KeyBits

/-- What I1 holds after the n-th hardware reset event. -/
opaque Config.powerOnI1 : Nat → Reg1

/-- What I2 holds after the n-th hardware reset event. -/
opaque Config.powerOnI2 : Nat → Reg2

/-- What I3 holds after the n-th hardware reset event. -/
opaque Config.powerOnI3 : Nat → Reg3

/-- What R1 holds after the n-th hardware reset event. -/
opaque Config.powerOnR1 : Nat → Reg1

/-- What R2 holds after the n-th hardware reset event. -/
opaque Config.powerOnR2 : Nat → Reg2

/-- What R3 holds after the n-th hardware reset event. -/
opaque Config.powerOnR3 : Nat → Reg3

end Sys2Proof
end

