-- ==== Sys2Proof/Machine/State.lean ====
section
/-! DEFINITION. The state of the CORE as plain data: the ten elements of rule R10, and the model's own three fields for
the ports of rule R31 and for the free values. There is no memory and no program counter (rules R17, R30). -/

namespace Sys2Proof.Machine

/-- The fault causes (rule R105). Each is reported in a response; none stops the machine (rules R111, R113). -/
inductive FaultCause where
  /-- code 1, raised by KEND when KC is not 64 (rule R106) -/
  | invalidKeyLength
  /-- code 2, raised by RESET, MAJ, STEP, ENC, DEC when KV is 0 (rule R107) -/
  | noEngine
  /-- code 3, raised by MAJ, STEP, ENC, DEC when KV is 1 and WV is 0 (rule R108) -/
  | noStream
  /-- code 4, raised by each word that is no command (rule R109) -/
  | illegalCommand
  deriving DecidableEq, Repr

/-- A response `respond(flt, ov, ob)` (rules R6, R31): the fault cause, or `none` for code 0; output valid; output bit. -/
structure Response where
  flt : Option FaultCause
  ov : Bit
  ob : Bit
  deriving DecidableEq, Repr

/-- What the host drives on the input pins in one cycle (rule R31): `rst`, `cmd_valid`, `cmd[7:0]`. -/
structure CycleIn where
  rst : Bit
  cmdValid : Bit
  cmd : CmdWord
  deriving DecidableEq, Repr

/-- Three registers of 19, 22 and 23 bits: a working state, an initial state, or the result of `Split`. -/
@[ext]
structure Working where
  r1 : Reg1
  r2 : Reg2
  r3 : Reg3
  deriving DecidableEq, Repr

/-- The state. -/
@[ext]
structure State where
  /-- working register R1 (rules R10, R11) -/
  r1 : Reg1
  /-- working register R2 -/
  r2 : Reg2
  /-- working register R3 -/
  r3 : Reg3
  /-- initial state I1 (rules R10, R12) -/
  i1 : Reg1
  /-- initial state I2 -/
  i2 : Reg2
  /-- initial state I3 -/
  i3 : Reg3
  /-- key valid (rules R10, R14) -/
  kv : Bit
  /-- working valid (rules R10, R14) -/
  wv : Bit
  /-- key buffer (rules R10, R13) -/
  kb : KeyBits
  /-- key bit counter (rules R10, R13) -/
  kc : Counter
  /-- the model's own: the response port as the last step left it; `none` when `rsp_valid` is 0 (rule R31; log entry 3) -/
  rsp : Option Response
  /-- the model's own: what the host drives on the pins in the cycles to come, the next one first (log entry 4) -/
  inputs : List CycleIn
  /-- the model's own: picks the free values of the next hardware reset event (log entry 2) -/
  draws : Nat
  deriving DecidableEq, Repr

/-- Reasons for which the machine stops with a fault: there is none, so this type has no constructor. Every fault of the
spec is reported in a response and the engine accepts the next command (rules R111, R113); no command can hang or leave the
engine stuck (rule R137). DEDUCED (log entry 5): safe, since nothing stops where the hardware goes on or goes on where
the hardware stops. -/
inductive Fault
  deriving DecidableEq, Repr

/-- Reasons for which a step is refused. -/
inductive Refusal where
  /-- raised only by an arm of exec whose instruction has no meaning yet; at present by none. Safe: the model stops where
  the hardware goes on. -/
  | notModelled (mnemonic : String)
  deriving DecidableEq, Repr

/-- The machine right after hardware reset. KV, WV and KC are 0 (rules R21, R125). The other seven elements are
unspecified there (rule R21); their zeros are a DESIGN CHOICE (log entry 1, unsafe). No command can observe them. The
response port is idle, the host has presented nothing yet, and no free value is drawn (log entries 2, 3, 4). -/
def State.reset : State where
  r1 := 0
  r2 := 0
  r3 := 0
  i1 := 0
  i2 := 0
  i3 := 0
  kv := false
  wv := false
  kb := 0
  kc := 0
  rsp := none
  inputs := []
  draws := 0

end Sys2Proof.Machine
end

