-- ==== Sys2Proof/Machine/Lfsr.lean ====
section
/-! DEFINITION. The pure functions of the cipher: the key split (rule R64), the majority (rules R71, R74), the feedback,
the shift and the clock (rules R81 to R86), and the keystream (rule R89). -/

namespace Sys2Proof.Machine

/-- `Split(K)` (rule R64): K[0..18], K[19..40], K[41..63], position j of a part to position j of its register. -/
def split (k : KeyBits) : Working := ⟨k.extractLsb' 0 19, k.extractLsb' 19 22, k.extractLsb' 41 23⟩

/-- `Maj(a, b, c)` (rule R71). -/
def maj (a b c : Bit) : Bit := (a && b) || (a && c) || (b && c)

/-- The majority vote of a working state (rule R74). -/
def vote (w : Working) : Bit := maj (w.r1.getLsbD clk1) (w.r2.getLsbD clk2) (w.r3.getLsbD clk3)

/-- The feedback bit (rule R82): the exclusive-or of the bits at all tap positions. -/
def feedback {n : Nat} (taps : List Nat) (x : BitVec n) : Bit :=
  taps.foldl (fun acc i => acc ^^ x.getLsbD i) false

/-- `Shift(X, f)` (rule R83), in the form `((X << 1) | f) mod 2^L`. -/
def shiftIn {n : Nat} (x : BitVec n) (f : Bit) : BitVec n := (x <<< 1) ||| (BitVec.ofBool f).setWidth n

/-- One register in one cycle (rule R84): it shifts exactly when its own clocking bit equals the majority `m`. -/
def clockRegister {n : Nat} (clk : Nat) (taps : List Nat) (m : Bit) (x : BitVec n) : BitVec n :=
  if x.getLsbD clk = m then shiftIn x (feedback taps x) else x

/-- The three registers after one cycle (rules R81, R84): one majority for all three. -/
def advance (w : Working) : Working where
  r1 := clockRegister clk1 taps1 (vote w) w.r1
  r2 := clockRegister clk2 taps2 (vote w) w.r2
  r3 := clockRegister clk3 taps3 (vote w) w.r3

/-- The exclusive-or of the three bits at the output ends. -/
def outputBit (w : Working) : Bit := w.r1.getLsbD out1 ^^ w.r2.getLsbD out2 ^^ w.r3.getLsbD out3

/-- `Clock(R1, R2, R3)` (rule R86): the new registers, and the output bit taken AFTER the shifts (rule R85). -/
def clock (w : Working) : Working × Bit := (advance w, outputBit (advance w))

/-- The registers after n cycles (rule R89). -/
def clockN : Nat → Working → Working
  | 0, w => w
  | n + 1, w => clockN n (clock w).1

/-- The keystream of length n from a working state (rule R89). -/
def keystream : Nat → Working → List Bit
  | 0, _ => []
  | n + 1, w => (clock w).2 :: keystream n (clock w).1

/-- Visit one register of a step, the majority being fixed already: the piece of a step that rule R92 speaks of. -/
def visitRegister (m : Bit) (w : Working) (k : Fin 3) : Working :=
  match k with
  | 0 => { w with r1 := clockRegister clk1 taps1 m w.r1 }
  | 1 => { w with r2 := clockRegister clk2 taps2 m w.r2 }
  | 2 => { w with r3 := clockRegister clk3 taps3 m w.r3 }

end Sys2Proof.Machine
end

