-- ==== Sys2Proof/Machine/Ops.lean ====
section
/-! DEFINITION. The named operations over the state: the updates of its parts, the response port, raising a fault,
hardware reset, the status view and the output pins. -/

namespace Sys2Proof.Machine

/-- Write R1, R2, R3. -/
def State.setWorking (s : State) (w : Working) : State := { s with r1 := w.r1, r2 := w.r2, r3 := w.r3 }

/-- Write I1, I2, I3. -/
def State.setInitial (s : State) (w : Working) : State := { s with i1 := w.r1, i2 := w.r2, i3 := w.r3 }

/-- Write the flags KV and WV. -/
def State.setFlags (s : State) (kv wv : Bit) : State := { s with kv := kv, wv := wv }

/-- Write the key buffer KB. -/
def State.setBuffer (s : State) (kb : KeyBits) : State := { s with kb := kb }

/-- Write the key bit counter KC. -/
def State.setCount (s : State) (kc : Counter) : State := { s with kc := kc }

/-- Drive the response port. -/
def State.setRsp (s : State) (r : Option Response) : State := { s with rsp := r }

/-- Set what the host drives next. -/
def State.setInputs (s : State) (cs : List CycleIn) : State := { s with inputs := cs }

/-- R1, R2, R3 as one value. -/
def State.working (s : State) : Working := ⟨s.r1, s.r2, s.r3⟩

/-- I1, I2, I3 as one value. -/
def State.initial (s : State) : Working := ⟨s.i1, s.i2, s.i3⟩

/-- `respond(0, 0, 0)` (rules R6, R31): the command completed and has no output bit. -/
def respondOk (s : State) : State := s.setRsp (some ⟨none, false, false⟩)

/-- `respond(0, 1, b)` (rules R6, R31): the command completed with the output bit `b`. -/
def respondBit (b : Bit) (s : State) : State := s.setRsp (some ⟨none, true, b⟩)

/-- Taking a fault (rules R6, R111, R112): `raise F` is `respond(code of F, 0, 0)`, delivered in the response of the
faulting command and nowhere else. Nothing is saved, no control transfer happens, and there is nothing to return from
(rule R113). The one fault with an effect on the state, InvalidKeyLength, clears its flags and counter in KEND's own rule
(rule R63). -/
def raise (f : FaultCause) (s : State) : State := s.setRsp (some ⟨some f, false, false⟩)

/-- A cycle in which nothing is presented, or the wait for the next one (rules R31, R60, R119): no response, no state
change. -/
def idle (s : State) : State := s.setRsp none

/-- The hardware reset event (rule R125): KV, WV, KC become 0; the other seven elements become unspecified, a free value
each (log entry 2, DESIGN CHOICE, safe); there is no response (log entry 6, DEDUCED). -/
def hardwareReset (s : State) : State where
  r1 := Config.powerOnR1 s.draws
  r2 := Config.powerOnR2 s.draws
  r3 := Config.powerOnR3 s.draws
  i1 := Config.powerOnI1 s.draws
  i2 := Config.powerOnI2 s.draws
  i3 := Config.powerOnI3 s.draws
  kv := false
  wv := false
  kb := Config.powerOnKB s.draws
  kc := 0
  rsp := none
  inputs := s.inputs
  draws := s.draws + 1

/-- The pins of a cycle in which the host presents the command word `w` (rule R31). -/
def commandCycle (w : CmdWord) : CycleIn := ⟨false, true, w⟩

/-- The 3-bit fault code of a response (rule R105). -/
def faultCode : Option FaultCause → BitVec 3
  | none => 0
  | some .invalidKeyLength => 1
  | some .noEngine => 2
  | some .noStream => 3
  | some .illegalCommand => 4

/-- The status view `STATUS[8:0]` = KC, WV, KV from the high end down (rule R18). -/
def State.status (s : State) : BitVec 9 := s.kc ++ BitVec.ofBool s.wv ++ BitVec.ofBool s.kv

/-- The pin `rsp_valid` (rule R31). -/
def State.rspValid (s : State) : Bit := s.rsp.isSome

/-- The pins `rsp_flt[2:0]` (rule R31): the fault code of the response; the spec states no value for a cycle without a
response, and the view then gives none (log entry 7, DESIGN CHOICE, safe). -/
def State.rspFlt (s : State) : Option (BitVec 3) := s.rsp.map fun r => faultCode r.flt

/-- The pin `rsp_ov` (rule R31): 1 when the command produced an output bit, else 0. -/
def State.rspOv (s : State) : Bit :=
  match s.rsp with
  | some r => r.ov
  | none => false

/-- The pin `rsp_ob` (rule R31): 0 whenever `rsp_ov` is 0. -/
def State.rspOb (s : State) : Bit :=
  match s.rsp with
  | some r => r.ov && r.ob
  | none => false

end Sys2Proof.Machine
end

