-- ==== Sys2Proof/Machine/Operands.lean ====
section
/-! DEFINITION. What the one operand of the command set, the bit `d = W[0]` (rule R47), is used for: it is entered into
the key buffer (rule R62) or combined with a keystream bit (rule R95). -/

namespace Sys2Proof.Machine

/-- `X[i] <- d`: bit i of X becomes d, the others stay (rule R6). -/
def writeBit {n : Nat} (x : BitVec n) (i : Nat) (d : Bit) : BitVec n :=
  if d then x ||| BitVec.twoPow n i else x &&& ~~~(BitVec.twoPow n i)

/-- The key-entry operand (rule R62): while KC is below 64, `KB[KC] <- d` and KC counts one up; then the bit is dropped and
KC saturates at 65. For the counts 66 to 127, which no run reaches, the rule's else branch is applied as written (log
entry 10, DEDUCED, safe). -/
def enterKeyBit (d : Bit) (s : State) : State :=
  if s.kc.toNat < keyLen then (s.setBuffer (writeBit s.kb s.kc.toNat d)).setCount (s.kc + 1)
  else s.setCount kcTooMany

/-- The combiner `Combine(d, z) = d ^ z` (rule R95). -/
def combine (d z : Bit) : Bit := d ^^ z

end Sys2Proof.Machine
end

