-- ==== Sys2Proof/Machine/Flags.lean ====
section
/-! DEFINITION. Everything that sets, clears or reads the flags KV and WV (rules R14, R63, R70, R107, R108). -/

namespace Sys2Proof.Machine

/-- KEND accepts the key (rules R63, R64): I1 to I3 take the split, KV is set, WV and KC are cleared. -/
def acceptKey (s : State) : State := ((s.setInitial (split s.kb)).setFlags true false).setCount 0

/-- KEND rejects the key (rules R63, R106): KV, WV and KC are cleared. -/
def rejectKey (s : State) : State := (s.setFlags false false).setCount 0

/-- RESET starts a stream (rule R70): the working registers take the initial ones and WV is set. -/
def startStream (s : State) : State := (s.setWorking s.initial).setFlags s.kv true

/-- The test of KV (rule R107): without an engine, NoEngine and no state change; else the command's own effect. -/
def needEngine (s ok : State) : Host.Outcome State Fault Refusal :=
  if s.kv then .next ok else .next (raise .noEngine s)

/-- The tests of KV and then WV (rules R107, R108, R110). In the states with KV = 0 and WV = 1, which no run reaches, the
test of KV comes first (log entry 10). -/
def needStream (s ok : State) : Host.Outcome State Fault Refusal :=
  needEngine s (if s.wv then ok else raise .noStream s)

end Sys2Proof.Machine
end

