-- ==== Sys2Proof/Machine/Keystream.lean ====
section
/-! DEFINITION. The clocking step as a state operation, and the command STEP (42_step_and_keystream.md). -/

namespace Sys2Proof.Machine

/-- Clock the working registers of the state once (rules R86, R87). -/
def clockState (s : State) : State := s.setWorking (clock s.working).1

/-- The keystream bit that clocking this state produces (rules R85, R87). -/
def streamBit (s : State) : Bit := (clock s.working).2

/-- STEP (rule R87): clock once and answer the keystream bit. -/
def execStep (s : State) : Host.Outcome State Fault Refusal := needStream s (respondBit (streamBit s) (clockState s))

end Sys2Proof.Machine
end

