-- ==== Sys2Proof/Machine/Combine.lean ====
section
/-! DEFINITION. The combiner commands ENC and DEC (43_combine.md). -/

namespace Sys2Proof.Machine

/-- The one combine operation behind both opcodes (rules R95, R96, R97): clock once and answer `d ^ z`. -/
def combineStep (d : Bit) (s : State) : Host.Outcome State Fault Refusal :=
  needStream s (respondBit (combine d (streamBit s)) (clockState s))

/-- ENC (rule R96). -/
def execEnc (d : Bit) (s : State) : Host.Outcome State Fault Refusal := combineStep d s

/-- DEC (rule R97): the same as ENC in every state and for every d. -/
def execDec (d : Bit) (s : State) : Host.Outcome State Fault Refusal := combineStep d s

end Sys2Proof.Machine
end

