-- ==== Sys2Proof/Machine/KeyLoad.lean ====
section
/-! DEFINITION. The idle and key-load commands NOP, KCLR, KBIT, KEND (40_control_and_key_load.md). -/

namespace Sys2Proof.Machine

/-- NOP (rule R60): respond, and nothing else, in any state. -/
def execNop (s : State) : Host.Outcome State Fault Refusal := .next (respondOk s)

/-- KCLR (rule R61): KC becomes 0; KB keeps its bits. -/
def execKclr (s : State) : Host.Outcome State Fault Refusal := .next (respondOk (s.setCount 0))

/-- KBIT (rule R62): enter the next key bit; no fault in any state. -/
def execKbit (d : Bit) (s : State) : Host.Outcome State Fault Refusal := .next (respondOk (enterKeyBit d s))

/-- KEND (rule R63): exactly 64 bits make an engine; any other count is InvalidKeyLength. R1 to R3 are not written. -/
def execKend (s : State) : Host.Outcome State Fault Refusal :=
  if s.kc.toNat = keyLen then .next (respondOk (acceptKey s)) else .next (raise .invalidKeyLength (rejectKey s))

end Sys2Proof.Machine
end

