-- ==== Sys2Proof/Machine/ResetVote.lean ====
section
/-! DEFINITION. The message reset RESET and the majority vote MAJ (41_reset_and_vote.md). -/

namespace Sys2Proof.Machine

/-- RESET (rule R70): copy the initial state into the working registers. -/
def execReset (s : State) : Host.Outcome State Fault Refusal := needEngine s (respondOk (startStream s))

/-- MAJ (rule R72): answer the majority vote of the working state; no state changes. -/
def execMaj (s : State) : Host.Outcome State Fault Refusal := needStream s (respondBit (vote s.working) s)

end Sys2Proof.Machine
end

