-- ==== Sys2Proof/Machine/Dispatch.lean ====
section
/-! DEFINITION. Which meaning each command has: one arm per constructor (rule R48). -/

namespace Sys2Proof.Machine

def exec (i : Instr) (s : State) : Host.Outcome State Fault Refusal :=
  match i with
  | .nop => Sys2Proof.Machine.execNop s
  | .kclr => Sys2Proof.Machine.execKclr s
  | .kbit d => Sys2Proof.Machine.execKbit d s
  | .kend => Sys2Proof.Machine.execKend s
  | .reset => Sys2Proof.Machine.execReset s
  | .maj => Sys2Proof.Machine.execMaj s
  | .step => Sys2Proof.Machine.execStep s
  | .enc d => Sys2Proof.Machine.execEnc d s
  | .dec d => Sys2Proof.Machine.execDec d s

end Sys2Proof.Machine
end

