-- ==== Sys2Proof/Machine/Port.lean ====
section
/-! DEFINITION. The ports (rules R31, R125): what one presented word does, and what one cycle of the input pins does. -/

namespace Sys2Proof.Machine

/-- One command word accepted at the command port (rules R7, R49, R109): a command runs; any other word raises
IllegalCommand, decided from the word alone, and changes no state. -/
def present (w : CmdWord) (s : State) : Host.Outcome State Fault Refusal :=
  match decode w with
  | .command i => exec i s
  | .illegal _ => .next (raise .illegalCommand s)

/-- One cycle of the input pins (rules R31, R125): `rst` takes precedence over a command presented at the same time, which
is not executed; with `cmd_valid` 0 there is no command and no state change. -/
def cycle (c : CycleIn) (s : State) : Host.Outcome State Fault Refusal :=
  if c.rst then .next (hardwareReset s)
  else if c.cmdValid then present c.cmd s
  else .next (idle s)

/-- The next cycle: the first entry of `inputs` is consumed. When the host has presented nothing the engine waits and holds
its state (rules R119, R126; log entry 4). -/
def tick (s : State) : Host.Outcome State Fault Refusal :=
  match s.inputs with
  | [] => .next (idle s)
  | c :: cs => cycle c (s.setInputs cs)

end Sys2Proof.Machine
end

