-- ==== Sys2Proof/Machine/Step.lean ====
section
/-! DEFINITION. The step of the machine, one cycle of its ports, and how the host places a word for it. -/

namespace Sys2Proof.Machine

/-- One step: one cycle of the ports. -/
def step (s : State) : Host.Outcome State Fault Refusal := tick s

/-- `s` with the instruction whose bits are `w` presented at the command port in the very next cycle (rule R31); the engine
stores no program (rules R17, R40), so this is all that a program's first instruction takes (log entry 4). -/
def State.withFetchWord (s : State) (nbits w : Nat) : State :=
  s.setInputs (commandCycle (tableWord nbits w) :: s.inputs)

end Sys2Proof.Machine
end

