-- ==== Sys2Proof/Machine/Run.lean ====
section
/-! DEFINITION. Runs (rule R136) and the pseudo-instructions NEW, KEYSTREAM, ENCRYPT, DECRYPT (rules R54 to R56), which are
command sequences. A bit string is a list of bits, element 0 first in time (rule R32). -/

namespace Sys2Proof.Machine

/-- The result of a run (rule R136): the responses, one per command, in order, and the final state. -/
structure Run where
  final : State
  responses : List Response
  deriving DecidableEq, Repr

/-- Present a sequence of words, one after another, and collect the responses (rules R32, R38, R136). -/
def runWords : List CmdWord → State → Host.Outcome Run Fault Refusal
  | [], s => .next ⟨s, []⟩
  | w :: ws, s =>
    match present w s with
    | .next t =>
      match runWords ws t with
      | .next r => .next ⟨r.final, t.rsp.toList ++ r.responses⟩
      | .fault f => .fault f
      | .refused f => .refused f
    | .fault f => .fault f
    | .refused f => .refused f

/-- Run n cycles of the machine itself and collect the responses on its response port. -/
def runCycles : Nat → State → Host.Outcome Run Fault Refusal
  | 0, s => .next ⟨s, []⟩
  | n + 1, s =>
    match step s with
    | .next t =>
      match runCycles n t with
      | .next r => .next ⟨r.final, t.rsp.toList ++ r.responses⟩
      | .fault f => .fault f
      | .refused f => .refused f
    | .fault f => .fault f
    | .refused f => .refused f

/-- `NEW k` (rule R54). -/
def newKey (k : List Bit) : List CmdWord :=
  encode .kclr :: (k.map (fun d => encode (.kbit d)) ++ [encode .kend])

/-- `KEYSTREAM n` (rule R55). -/
def keystreamWords (n : Nat) : List CmdWord := List.replicate n (encode .step)

/-- `ENCRYPT p` (rule R56). -/
def encrypt (p : List Bit) : List CmdWord := encode .reset :: p.map (fun d => encode (.enc d))

/-- `DECRYPT c` (rule R56). -/
def decrypt (c : List Bit) : List CmdWord := encode .reset :: c.map (fun d => encode (.dec d))

/-- The returned bit sequence of a run (rules R55, R56): the output bits of the responses that have one, in order. -/
def outputBits (rs : List Response) : List Bit := (rs.filter (·.ov)).map (·.ob)

end Sys2Proof.Machine
end

