-- ==== Sys2Proof/Safety.lean ====
section
/-! DEFINITION. The terms in which statements speak of the machine: the invariant of its states (rule R15), the shape of
a response (rules R31, R105), the fault matrix (rule R110), and which parts of a state can be observed (rules R21, R23). -/

namespace Sys2Proof.Machine

/-- The shape of a response (rules R31, R105): a fault has no output bit, and the output bit is 0 when it is not valid. -/
def Response.wellShaped (r : Response) : Bool := (r.flt.isNone || !r.ov) && (r.ov || !r.ob)

/-- The invariant of the states (rule R15 b, c, e, and the response's shape): KC is at most 65; a stream needs an engine;
valid working registers are the initial ones clocked some number of times. -/
structure State.Inv (s : State) : Prop where
  count : s.kc.toNat ≤ 65
  streamNeedsEngine : s.wv = true → s.kv = true
  streamFromKey : s.wv = true → ∃ n, s.working = clockN n s.initial
  response : ∀ r, s.rsp = some r → r.wellShaped = true

/-- The commands that read the working registers (rule R108). -/
def readsStream : Instr → Bool
  | .maj => true
  | .step => true
  | .enc _ => true
  | .dec _ => true
  | .nop => false
  | .kclr => false
  | .kbit _ => false
  | .kend => false
  | .reset => false

/-- The commands that rule R129 calls harmless to a message: NOP, MAJ, KCLR, KBIT. -/
def harmless : Instr → Bool
  | .nop => true
  | .maj => true
  | .kclr => true
  | .kbit _ => true
  | .kend => false
  | .reset => false
  | .step => false
  | .enc _ => false
  | .dec _ => false

/-- The commands whose immediate repetition changes nothing (rule R36): NOP, KCLR, RESET, MAJ. -/
def idempotent : Instr → Bool
  | .nop => true
  | .kclr => true
  | .reset => true
  | .maj => true
  | .kbit _ => false
  | .kend => false
  | .step => false
  | .enc _ => false
  | .dec _ => false

/-- The fault matrix of rule R110: the fault a command raises in a state with these flags and this count. -/
def faultOf (kv wv : Bit) (kc : Nat) : Instr → Option FaultCause
  | .nop => none
  | .kclr => none
  | .kbit _ => none
  | .kend => if kc = 64 then none else some .invalidKeyLength
  | .reset => if kv then none else some .noEngine
  | .maj => if kv then (if wv then none else some .noStream) else some .noEngine
  | .step => if kv then (if wv then none else some .noStream) else some .noEngine
  | .enc _ => if kv then (if wv then none else some .noStream) else some .noEngine
  | .dec _ => if kv then (if wv then none else some .noStream) else some .noEngine

/-- Two states that no host can tell apart (rules R21, R23): the status view is the same, the key bits entered so far are
the same, I1 to I3 are the same where KV is 1, R1 to R3 are the same where WV is 1. Whatever else they hold, stale or
unspecified, may differ. -/
structure State.SameToHost (s t : State) : Prop where
  kv : s.kv = t.kv
  wv : s.wv = t.wv
  kc : s.kc = t.kc
  entered : ∀ j, j < s.kc.toNat → s.kb.getLsbD j = t.kb.getLsbD j
  key : s.kv = true → s.initial = t.initial
  stream : s.wv = true → s.working = t.working

end Sys2Proof.Machine
end

