-- ==== Sys2Proof/Certificates/Slice0/Obligations.lean ====
section
/-! DEFINITION. The statements for the provers. Each docstring names the rule of spec/ it formalises. A response
`respond(flt, ov, ob)` is the triple of the same order, `none` standing for fault code 0. Where a statement speaks of the
fields `rsp`, `inputs` and `draws` of State it speaks of the model's own form of the ports and of the free values (log
entries 2, 3, 4). -/

open Sys2Proof Sys2Proof.Machine

/-- Rules R48, R49: the decoder and the encoder are inverse to each other, on every one of the 256 words and every command
with every operand, so no word but its own decodes to a command. -/
def Obligations.DecodeInvertsEncode : Prop :=
  ∀ (w : CmdWord) (i : Instr), decode w = .command i ↔ encode i = w

/-- Rule R48: a word selects a command exactly when `(W & mask) == match`; the operand is `W[0]`; there are exactly 12
legal words. -/
def Obligations.WordSelectsCommandByMatchAndMask : Prop :=
  ∀ w : CmdWord,
    (decode w = .command .nop ↔ w &&& 0xFF = 0x00) ∧
    (decode w = .command .kclr ↔ w &&& 0xFF = 0x10) ∧
    (∀ d, decode w = .command (.kbit d) ↔ w &&& 0xFE = 0x20 ∧ d = w.getLsbD 0) ∧
    (decode w = .command .kend ↔ w &&& 0xFF = 0x30) ∧
    (decode w = .command .reset ↔ w &&& 0xFF = 0x40) ∧
    (decode w = .command .maj ↔ w &&& 0xFF = 0x50) ∧
    (decode w = .command .step ↔ w &&& 0xFF = 0x60) ∧
    (∀ d, decode w = .command (.enc d) ↔ w &&& 0xFE = 0x80 ∧ d = w.getLsbD 0) ∧
    (∀ d, decode w = .command (.dec d) ↔ w &&& 0xFE = 0x90 ∧ d = w.getLsbD 0) ∧
    ((∃ i, decode w = .command i) ↔
      w ∈ [(0x00 : CmdWord), 0x10, 0x20, 0x21, 0x30, 0x40, 0x50, 0x60, 0x80, 0x81, 0x90, 0x91])

/-- Rules R50, R109: which words are Illegal; each of them, in any state, answers IllegalCommand and changes nothing; there
are 244 of them. -/
def Obligations.IllegalWordsAnswerIllegalCommand : Prop :=
  (∀ w : CmdWord,
    ((∃ why, decode w = .illegal why) ↔
      w.extractLsb' 4 4 ∈ [(0b0111 : BitVec 4), 0b1010, 0b1011, 0b1100, 0b1101, 0b1110, 0b1111] ∨
      w.extractLsb' 1 3 ≠ 0 ∨
      (w.extractLsb' 4 4 ∈ [(0b0000 : BitVec 4), 0b0001, 0b0011, 0b0100, 0b0101, 0b0110] ∧ w.getLsbD 0 = true)) ∧
    ((∃ why, decode w = .illegal why) → ∀ s : State,
      present w s = .next { s with rsp := some ⟨some .illegalCommand, false, false⟩ })) ∧
  (List.range 256).countP (fun n => isIllegal (BitVec.ofNat 8 n)) = 244

/-- 95_test_vectors.md, 2.1: words written out from the encoding decode to the command they stand for. -/
def Obligations.WordsOfTheTableDecode : Prop :=
  decode 0b00000000 = .command .nop ∧ decode 0b00010000 = .command .kclr ∧
  decode 0b00100000 = .command (.kbit false) ∧ decode 0b00100001 = .command (.kbit true) ∧
  decode 0b00110000 = .command .kend ∧ decode 0b01000000 = .command .reset ∧
  decode 0b01010000 = .command .maj ∧ decode 0b01100000 = .command .step ∧
  decode 0b10000001 = .command (.enc true) ∧ decode 0b10010000 = .command (.dec false)

/-- 20_memory.md, section 2: one step is one cycle of the input pins, the first of those the host is still to drive (the
list `inputs` is the model's own, log entry 4). -/
def Obligations.StepTakesOneCycleOfThePins : Prop :=
  ∀ (s : State) (c : CycleIn) (cs : List CycleIn), s.inputs = c :: cs → step s = cycle c { s with inputs := cs }

/-- 20_memory.md, sections 2 and 5: when the host presents a word that decodes to a command, the step is that command,
the presented cycle being consumed (the list `inputs` is the model's own, log entry 4). -/
def Obligations.StepRunsThePresentedCommand : Prop :=
  ∀ (s : State) (c : CycleIn) (cs : List CycleIn) (i : Instr),
    s.inputs = c :: cs → c.rst = false → c.cmdValid = true → decode c.cmd = .command i →
    step s = exec i { s with inputs := cs }

/-- 30_encoding.md, sections 3 and 4: a word that decodes to no command steps to IllegalCommand, the presented cycle being
consumed and nothing else changed. -/
def Obligations.StepRefusesAnIllegalWord : Prop :=
  ∀ (s : State) (c : CycleIn) (cs : List CycleIn),
    s.inputs = c :: cs → c.rst = false → c.cmdValid = true → legalWord c.cmd = false →
    step s = .next { s with inputs := cs, rsp := some ⟨some .illegalCommand, false, false⟩ }

/-- A word placed by `withFetchWord` (the model's own way to present a word, log entry 4) is what the very next step runs. -/
def Obligations.PlacedWordRunsNext : Prop :=
  ∀ (s : State) (w : Nat) (i : Instr),
    w < 256 → decodeTableWord 8 w = some i → step (s.withFetchWord 8 w) = exec i s

/-- 70_reset_and_hazards.md, section 1: the hardware reset event clears KV, WV and KC and takes precedence over a command
presented in the same cycle; it and a failed KEND are the only ways to clear KV (rule R125's own words). That the cycle has
no response ALSO when a command is presented in it is the model's reading (log entry 6, DEDUCED: the pin table of
20_memory.md says that rsp_valid equals cmd_valid). Nothing is said of the seven unspecified elements: they are free
values (log entry 2). -/
def Obligations.HardwareResetForgetsTheEngine : Prop :=
  (∀ (c : CycleIn) (s : State), c.rst = true →
    ∃ t, cycle c s = .next t ∧ t.kv = false ∧ t.wv = false ∧ t.kc = 0 ∧ t.rsp = none) ∧
  (∀ (c : CycleIn) (s t : State), cycle c s = .next t → s.kv = true → t.kv = false →
    c.rst = true ∨
    (c.cmdValid = true ∧ decode c.cmd = .command .kend ∧ t.rsp = some ⟨some .invalidKeyLength, false, false⟩))

/-- 60_exceptions.md, section 7: an engine that receives no command holds its state. That an empty list `inputs` means
'no command' is the model's own (log entry 4). -/
def Obligations.WaitingEngineHoldsItsState : Prop :=
  ∀ s : State, s.inputs = [] → step s = .next { s with rsp := none }

/-- Rule R60: NOP, and the cycle without a command, which has the same effect on the state and no response. -/
def Obligations.NopOnlyResponds : Prop :=
  encode .nop = 0x00 ∧
  (∀ s : State, exec .nop s = .next { s with rsp := some ⟨none, false, false⟩ }) ∧
  (∀ (c : CycleIn) (s : State), c.rst = false → c.cmdValid = false → cycle c s = .next { s with rsp := none })

/-- Rule R61: KCLR. -/
def Obligations.KclrRestartsKeyEntry : Prop :=
  encode .kclr = 0x10 ∧
  ∀ s : State, exec .kclr s = .next { s with kc := 0, rsp := some ⟨none, false, false⟩ }

/-- Rule R62: KBIT. Below 64 the bit at position KC of KB becomes d, every other bit of KB stays, and KC counts one up; at
64 or above d is dropped and KC becomes 65. -/
def Obligations.KbitEntersTheNextKeyBit : Prop :=
  (∀ d, encode (.kbit d) = if d then 0x21 else 0x20) ∧
  (∀ (d : Bit) (s : State), s.kc.toNat < 64 →
    ∃ kb : KeyBits,
      exec (.kbit d) s = .next { s with kb := kb, kc := s.kc + 1, rsp := some ⟨none, false, false⟩ } ∧
      kb.getLsbD s.kc.toNat = d ∧ ∀ j, j ≠ s.kc.toNat → kb.getLsbD j = s.kb.getLsbD j) ∧
  (∀ (d : Bit) (s : State), 64 ≤ s.kc.toNat →
    exec (.kbit d) s = .next { s with kc := 65, rsp := some ⟨none, false, false⟩ })

/-- Rule R63: KEND. -/
def Obligations.KendAcceptsExactly64Bits : Prop :=
  encode .kend = 0x30 ∧
  (∀ s : State, s.kc.toNat = 64 →
    exec .kend s = .next { s with i1 := (split s.kb).r1, i2 := (split s.kb).r2, i3 := (split s.kb).r3,
                                  kv := true, wv := false, kc := 0, rsp := some ⟨none, false, false⟩ }) ∧
  (∀ s : State, s.kc.toNat ≠ 64 →
    exec .kend s = .next { s with kv := false, wv := false, kc := 0,
                                  rsp := some ⟨some .invalidKeyLength, false, false⟩ })

/-- Rule R64: the key split, position by position; every key bit is used exactly once. -/
def Obligations.SplitCutsTheKeyInOrder : Prop :=
  ∀ k : KeyBits,
    (∀ j, j < 19 → (split k).r1.getLsbD j = k.getLsbD j) ∧
    (∀ j, j < 22 → (split k).r2.getLsbD j = k.getLsbD (19 + j)) ∧
    (∀ j, j < 23 → (split k).r3.getLsbD j = k.getLsbD (41 + j)) ∧
    ((split k).r3 ++ (split k).r2 ++ (split k).r1 : BitVec 64) = k

/-- Rule R70: RESET. -/
def Obligations.ResetCopiesTheInitialState : Prop :=
  encode .reset = 0x40 ∧
  (∀ s : State, s.kv = false →
    exec .reset s = .next { s with rsp := some ⟨some .noEngine, false, false⟩ }) ∧
  (∀ s : State, s.kv = true →
    exec .reset s = .next { s with r1 := s.i1, r2 := s.i2, r3 := s.i3, wv := true,
                                   rsp := some ⟨none, false, false⟩ })

/-- Rule R72: MAJ. -/
def Obligations.MajAnswersTheVote : Prop :=
  encode .maj = 0x50 ∧
  (∀ s : State, s.kv = false →
    exec .maj s = .next { s with rsp := some ⟨some .noEngine, false, false⟩ }) ∧
  (∀ s : State, s.kv = true → s.wv = false →
    exec .maj s = .next { s with rsp := some ⟨some .noStream, false, false⟩ }) ∧
  (∀ s : State, s.kv = true → s.wv = true →
    exec .maj s = .next
      { s with rsp := some ⟨none, true, maj (s.r1.getLsbD 8) (s.r2.getLsbD 10) (s.r3.getLsbD 10)⟩ })

/-- Rule R87: STEP. -/
def Obligations.StepClocksOnceAndAnswersTheBit : Prop :=
  encode .step = 0x60 ∧
  (∀ s : State, s.kv = false →
    exec .step s = .next { s with rsp := some ⟨some .noEngine, false, false⟩ }) ∧
  (∀ s : State, s.kv = true → s.wv = false →
    exec .step s = .next { s with rsp := some ⟨some .noStream, false, false⟩ }) ∧
  (∀ s : State, s.kv = true → s.wv = true →
    exec .step s = .next
      { s with r1 := (clock ⟨s.r1, s.r2, s.r3⟩).1.r1, r2 := (clock ⟨s.r1, s.r2, s.r3⟩).1.r2, r3 := (clock ⟨s.r1, s.r2, s.r3⟩).1.r3,
               rsp := some ⟨none, true, (clock ⟨s.r1, s.r2, s.r3⟩).2⟩ })

/-- Rule R96: ENC. -/
def Obligations.EncCombinesThePlaintextBit : Prop :=
  (∀ d, encode (.enc d) = if d then 0x81 else 0x80) ∧
  (∀ (d : Bit) (s : State), s.kv = false →
    exec (.enc d) s = .next { s with rsp := some ⟨some .noEngine, false, false⟩ }) ∧
  (∀ (d : Bit) (s : State), s.kv = true → s.wv = false →
    exec (.enc d) s = .next { s with rsp := some ⟨some .noStream, false, false⟩ }) ∧
  (∀ (d : Bit) (s : State), s.kv = true → s.wv = true →
    exec (.enc d) s = .next
      { s with r1 := (clock ⟨s.r1, s.r2, s.r3⟩).1.r1, r2 := (clock ⟨s.r1, s.r2, s.r3⟩).1.r2, r3 := (clock ⟨s.r1, s.r2, s.r3⟩).1.r3,
               rsp := some ⟨none, true, d ^^ (clock ⟨s.r1, s.r2, s.r3⟩).2⟩ })

/-- Rule R97: DEC, and that it is ENC in every state and for every d. -/
def Obligations.DecCombinesTheCiphertextBit : Prop :=
  (∀ d, encode (.dec d) = if d then 0x91 else 0x90) ∧
  (∀ (d : Bit) (s : State), s.kv = false →
    exec (.dec d) s = .next { s with rsp := some ⟨some .noEngine, false, false⟩ }) ∧
  (∀ (d : Bit) (s : State), s.kv = true → s.wv = false →
    exec (.dec d) s = .next { s with rsp := some ⟨some .noStream, false, false⟩ }) ∧
  (∀ (d : Bit) (s : State), s.kv = true → s.wv = true →
    exec (.dec d) s = .next
      { s with r1 := (clock ⟨s.r1, s.r2, s.r3⟩).1.r1, r2 := (clock ⟨s.r1, s.r2, s.r3⟩).1.r2, r3 := (clock ⟨s.r1, s.r2, s.r3⟩).1.r3,
               rsp := some ⟨none, true, d ^^ (clock ⟨s.r1, s.r2, s.r3⟩).2⟩ }) ∧
  (∀ (d : Bit) (s : State), exec (.dec d) s = exec (.enc d) s)

/-- Rule R71: the majority is 1 when at least two of the three bits are 1; it is symmetric; it equals at least two of them. -/
def Obligations.MajorityIsAtLeastTwoOfThree : Prop :=
  ∀ a b c : Bit,
    maj a b c = ((a && b) || (a && c) || (b && c)) ∧
    (maj a b c = true ↔ 2 ≤ a.toNat + b.toNat + c.toNat) ∧
    maj a b c = maj b a c ∧ maj a b c = maj a c b ∧
    ((maj a b c = a ∧ maj a b c = b) ∨ (maj a b c = a ∧ maj a b c = c) ∨ (maj a b c = b ∧ maj a b c = c))

/-- Rule R82: the feedback bit of each register is the exclusive-or of its tap bits, and its highest position is a tap. -/
def Obligations.FeedbackIsTheXorOfTheTaps : Prop :=
  (∀ x : Reg1, feedback taps1 x = (x.getLsbD 13 ^^ x.getLsbD 16 ^^ x.getLsbD 17 ^^ x.getLsbD 18)) ∧
  (∀ x : Reg2, feedback taps2 x = (x.getLsbD 20 ^^ x.getLsbD 21)) ∧
  (∀ x : Reg3, feedback taps3 x = (x.getLsbD 7 ^^ x.getLsbD 20 ^^ x.getLsbD 21 ^^ x.getLsbD 22)) ∧
  18 ∈ taps1 ∧ 21 ∈ taps2 ∧ 22 ∈ taps3

/-- Rule R83: the shift of a register of any length: f enters at position 0, every other bit moves one position up, the top
bit is discarded; as a number it is `((X << 1) | f) mod 2^L`. -/
def Obligations.ShiftMovesTowardTheOutputEnd : Prop :=
  ∀ (n : Nat) (x : BitVec n) (f : Bit),
    (0 < n → (shiftIn x f).getLsbD 0 = f) ∧
    (∀ i, 1 ≤ i → i < n → (shiftIn x f).getLsbD i = x.getLsbD (i - 1)) ∧
    (∀ y : BitVec n, (∀ i, i + 1 < n → x.getLsbD i = y.getLsbD i) → shiftIn x f = shiftIn y f) ∧
    (shiftIn x f).toNat = ((x.toNat <<< 1) ||| f.toNat) % 2 ^ n

/-- Rule R86: Clock, line by line as the rule writes it. -/
def Obligations.ClockFollowsTheSpecFormula : Prop :=
  ∀ (r1 : Reg1) (r2 : Reg2) (r3 : Reg3),
    let c1 := r1.getLsbD 8
    let c2 := r2.getLsbD 10
    let c3 := r3.getLsbD 10
    let m := (c1 && c2) || (c1 && c3) || (c2 && c3)
    let f1 := r1.getLsbD 13 ^^ r1.getLsbD 16 ^^ r1.getLsbD 17 ^^ r1.getLsbD 18
    let f2 := r2.getLsbD 20 ^^ r2.getLsbD 21
    let f3 := r3.getLsbD 7 ^^ r3.getLsbD 20 ^^ r3.getLsbD 21 ^^ r3.getLsbD 22
    let r1' : Reg1 := if c1 = m then r1.extractLsb' 0 18 ++ BitVec.ofBool f1 else r1
    let r2' : Reg2 := if c2 = m then r2.extractLsb' 0 21 ++ BitVec.ofBool f2 else r2
    let r3' : Reg3 := if c3 = m then r3.extractLsb' 0 22 ++ BitVec.ofBool f3 else r3
    clock ⟨r1, r2, r3⟩ = (⟨r1', r2', r3'⟩, r1'.getLsbD 18 ^^ r2'.getLsbD 21 ^^ r3'.getLsbD 22)

/-- Rule R85: the output bit is the exclusive-or of the top bits AFTER the shifts; so a clocked register contributes the
bit that stood one below its top, an unclocked one its top bit. -/
def Obligations.OutputBitIsTakenAfterTheShifts : Prop :=
  ∀ w : Working,
    (clock w).2 = ((clock w).1.r1.getLsbD 18 ^^ (clock w).1.r2.getLsbD 21 ^^ (clock w).1.r3.getLsbD 22) ∧
    (clock w).2 =
      ((if w.r1.getLsbD 8 = vote w then w.r1.getLsbD 17 else w.r1.getLsbD 18) ^^
       (if w.r2.getLsbD 10 = vote w then w.r2.getLsbD 20 else w.r2.getLsbD 21) ^^
       (if w.r3.getLsbD 10 = vote w then w.r3.getLsbD 21 else w.r3.getLsbD 22))

/-- 42_step_and_keystream.md, section 3 (the rule there is marked derived): in every cycle two or three registers are
clocked, all three exactly when the three clocking bits agree. -/
def Obligations.TwoOrThreeRegistersAreClocked : Prop :=
  ∀ w : Working,
    let n := (if w.r1.getLsbD 8 = vote w then 1 else 0) + (if w.r2.getLsbD 10 = vote w then 1 else 0) +
      (if w.r3.getLsbD 10 = vote w then 1 else 0)
    2 ≤ n ∧ (n = 3 ↔ w.r1.getLsbD 8 = w.r2.getLsbD 10 ∧ w.r2.getLsbD 10 = w.r3.getLsbD 10)

/-- 42_step_and_keystream.md, section 3 (marked derived there): visiting the registers one after another, in any order, with
the majority fixed before, gives the same registers as Clock. -/
def Obligations.OrderOfTheUpdatesDoesNotMatter : Prop :=
  ∀ (w : Working) (order : List (Fin 3)), order.Perm [0, 1, 2] →
    order.foldl (visitRegister (vote w)) w = (clock w).1

/-- 70_reset_and_hazards.md, section 3 (weak keys): a register that is all zero stays all zero, contributes 0 to the output
bit and 0 to the vote, whatever the other two hold. -/
def Obligations.ZeroRegisterStaysZero : Prop :=
  ∀ w : Working,
    (w.r1 = 0 → (clock w).1.r1 = 0 ∧ w.r1.getLsbD 8 = false ∧
      (clock w).2 = ((clock w).1.r2.getLsbD 21 ^^ (clock w).1.r3.getLsbD 22)) ∧
    (w.r2 = 0 → (clock w).1.r2 = 0 ∧ w.r2.getLsbD 10 = false ∧
      (clock w).2 = ((clock w).1.r1.getLsbD 18 ^^ (clock w).1.r3.getLsbD 22)) ∧
    (w.r3 = 0 → (clock w).1.r3 = 0 ∧ w.r3.getLsbD 10 = false ∧
      (clock w).2 = ((clock w).1.r1.getLsbD 18 ^^ (clock w).1.r2.getLsbD 21))

/-- 42_step_and_keystream.md, section 4 (marked derived there): the all-zero state answers 0 for ever and does not change;
one cycle from all ones. -/
def Obligations.AllZeroStateAnswersZeroForEver : Prop :=
  (∀ n, clockN n ⟨0, 0, 0⟩ = ⟨0, 0, 0⟩ ∧ keystream n ⟨0, 0, 0⟩ = List.replicate n false) ∧
  clock ⟨0x7FFFF, 0x3FFFFF, 0x7FFFFF⟩ = (⟨0x7FFFE, 0x3FFFFE, 0x7FFFFE⟩, true)

/-- 10_state.md, section 8 (the table there is marked derived): the write set of every command. Each element keeps its value
unless the command is one that the table lets write it. -/
def Obligations.EachElementHasItsWriters : Prop :=
  ∀ (i : Instr) (s t : State), exec i s = .next t →
    (t.kb ≠ s.kb → (∃ d, i = .kbit d) ∧ s.kc.toNat < 64) ∧
    (t.kc ≠ s.kc → i = .kclr ∨ (∃ d, i = .kbit d) ∨ i = .kend) ∧
    (t.initial ≠ s.initial → i = .kend ∧ s.kc.toNat = 64) ∧
    (t.kv ≠ s.kv → i = .kend ∧ t.kv = decide (s.kc.toNat = 64)) ∧
    (t.working ≠ s.working → s.kv = true ∧
      (i = .reset ∨ (s.wv = true ∧ (i = .step ∨ (∃ d, i = .enc d) ∨ (∃ d, i = .dec d))))) ∧
    (t.wv ≠ s.wv → (i = .kend ∧ t.wv = false) ∨ (i = .reset ∧ s.kv = true ∧ t.wv = true)) ∧
    t.inputs = s.inputs ∧ t.draws = s.draws

/-- Rule R112: the state after a fault. -/
def Obligations.FaultsLeaveTheStateAlone : Prop :=
  ∀ (w : CmdWord) (s t : State) (r : Response) (f : FaultCause),
    present w s = .next t → t.rsp = some r → r.flt = some f →
    (f ≠ .invalidKeyLength → t = { s with rsp := some r }) ∧
    (f = .invalidKeyLength → t = { s with kv := false, wv := false, kc := 0, rsp := some r })

/-- Rule R110: which fault each command raises in each flag state, and that a word that is no command raises IllegalCommand
before any state is read. -/
def Obligations.FaultPriorityFollowsTheMatrix : Prop :=
  (∀ (i : Instr) (s : State), ∃ t r, exec i s = .next t ∧ t.rsp = some r ∧
    r.flt = faultOf s.kv s.wv s.kc.toNat i) ∧
  (∀ (w : CmdWord) (s : State), isIllegal w = true → ∃ t r, present w s = .next t ∧ t.rsp = some r ∧
    r.flt = some .illegalCommand)

/-- 60_exceptions.md, section 1 and 20_memory.md, section 2: every accepted word gives one response; a fault has no output
bit; the output bit is 0 when it is not valid; it is valid exactly for MAJ, STEP, ENC, DEC without fault; codes 5, 6, 7 are
never produced. -/
def Obligations.EveryWordGivesOneResponse : Prop :=
  ∀ (w : CmdWord) (s t : State), present w s = .next t →
    ∃ r, t.rsp = some r ∧
      (r.flt ≠ none → r.ov = false ∧ r.ob = false) ∧
      (r.ov = false → r.ob = false) ∧
      (r.ov = true ↔ r.flt = none ∧ ∃ i, decode w = .command i ∧ readsStream i = true) ∧
      (faultCode r.flt = 0 ↔ r.flt = none) ∧ (faultCode r.flt).toNat ≤ 4

/-- 20_memory.md, section 5 (the table there is marked derived): repeating NOP, KCLR, RESET or MAJ at once gives the same
state and the same response. -/
def Obligations.RepetitionChangesNothing : Prop :=
  ∀ (i : Instr) (s t : State), idempotent i = true → exec i s = .next t → exec i t = .next t

/-- 40_control_and_key_load.md, section 5 and 20_memory.md, section 5: a KEND straight after any KEND faults with
InvalidKeyLength and leaves no engine. -/
def Obligations.SecondKendDestroysTheEngine : Prop :=
  ∀ s t : State, exec .kend s = .next t →
    exec .kend t = .next { t with kv := false, rsp := some ⟨some .invalidKeyLength, false, false⟩ }

/-- 60_exceptions.md, section 5: a word that faulted and is presented again gets the same fault and changes nothing more. -/
def Obligations.RepeatedFaultIsTheSameFault : Prop :=
  ∀ (w : CmdWord) (s t : State) (r : Response) (f : FaultCause),
    present w s = .next t → t.rsp = some r → r.flt = some f → present w t = .next t

/-- 43_combine.md, section 3 (the rule there is marked derived): STEP, ENC and DEC leave the same state behind, and
`out(ENC d) = out(DEC d) = d ^ out(STEP)`. -/
def Obligations.StreamCommandsShareOneClock : Prop :=
  ∀ (s : State) (d : Bit), s.kv = true → s.wv = true →
    ∃ (t : State) (z : Bit),
      exec .step s = .next { t with rsp := some ⟨none, true, z⟩ } ∧
      exec (.enc d) s = .next { t with rsp := some ⟨none, true, d ^^ z⟩ } ∧
      exec (.dec d) s = .next { t with rsp := some ⟨none, true, d ^^ z⟩ }

/-- 70_reset_and_hazards.md, section 3 (marked derived there): any KEND ends the message; the next STEP, ENC, DEC or MAJ
faults, with NoStream after success and NoEngine after failure. -/
def Obligations.KendEndsTheMessage : Prop :=
  ∀ (i : Instr) (s t : State), exec .kend s = .next t → readsStream i = true →
    exec i t = .next
      { t with rsp := some ⟨some (if s.kc.toNat = 64 then .noStream else .noEngine), false, false⟩ }

/-- 70_reset_and_hazards.md, section 3: NOP, MAJ, KCLR and KBIT between the commands of a message are harmless to it: the
next stream command answers the same and leaves the same working registers. -/
def Obligations.HarmlessCommandsDoNotDisturbTheStream : Prop :=
  ∀ (i j : Instr) (s t u v : State), harmless i = true → readsStream j = true →
    exec i s = .next t → exec j s = .next u → exec j t = .next v →
    v.rsp = u.rsp ∧ v.working = u.working ∧ v.kv = u.kv ∧ v.wv = u.wv

/-- Rule R95: the combiner is an exclusive-or and its own inverse. -/
def Obligations.CombinerIsItsOwnInverse : Prop :=
  ∀ d z : Bit, combine d z = (d ^^ z) ∧ combine (combine d z) z = d

/-- 10_state.md, section 4 (the invariants there are marked derived): every step keeps the invariant, from every state that
meets it. -/
def Obligations.EveryStepKeepsTheStateInvariant : Prop :=
  ∀ s t : State, s.Inv → step s = .next t → t.Inv

/-- 10_state.md, sections 4 and 9: the state after reset meets the invariant. -/
def Obligations.ResetStateMeetsTheInvariant : Prop :=
  State.reset.Inv

/-- 10_state.md, section 9: after hardware reset KV, WV and KC are 0. -/
def Obligations.ResetStateHasNoEngine : Prop :=
  State.reset.kv = false ∧ State.reset.wv = false ∧ State.reset.kc = 0 ∧ State.reset.status = 0

/-- 10_state.md, sections 9 and 10: no command can observe an unspecified or stale value. Two states that agree on what
counts answer every sequence of words alike; two hardware resets always leave such a pair, whatever the free values. -/
def Obligations.UnspecifiedContentsCannotBeObserved : Prop :=
  (∀ (ws : List CmdWord) (s t : State), s.SameToHost t →
    ∃ a b, runWords ws s = .next a ∧ runWords ws t = .next b ∧
      a.responses = b.responses ∧ a.final.status = b.final.status ∧ a.final.SameToHost b.final) ∧
  (∀ s t : State, (hardwareReset s).SameToHost (hardwareReset t))

/-- 70_reset_and_hazards.md, section 6 (the rule there is marked derived): no command can hang or leave the engine stuck. -/
def Obligations.EveryStepAnswersANextState : Prop :=
  ∀ s : State, ∃ t, step s = .next t

/-- Rule R18: the status view, its legal values in every state of the invariant, and its value after hardware reset. -/
def Obligations.StatusViewShowsFlagsAndCount : Prop :=
  (∀ s : State, s.status.getLsbD 0 = s.kv ∧ s.status.getLsbD 1 = s.wv ∧ s.status.extractLsb' 2 7 = s.kc) ∧
  (∀ s : State, s.Inv → (s.status.extractLsb' 2 7).toNat ≤ 65 ∧
    (s.status.getLsbD 1 = true → s.status.getLsbD 0 = true)) ∧
  (∀ s : State, (hardwareReset s).status = 0)

/-- 40_control_and_key_load.md, section 6 (marked derived there): NEW of a 64-bit key, from any state. -/
def Obligations.NewLoadsAKeyOf64Bits : Prop :=
  ∀ (k : List Bit) (s : State), k.length = 64 →
    ∃ t, runWords (newKey k) s = .next ⟨t, List.replicate 66 ⟨none, false, false⟩⟩ ∧
      (∀ j, j < 64 → t.kb.getLsbD j = k.getD j false) ∧ t.initial = split t.kb ∧
      t.kv = true ∧ t.wv = false ∧ t.kc = 0 ∧ t.working = s.working

/-- 40_control_and_key_load.md, section 6 (marked derived there): NEW of a key of any other length, from any state. -/
def Obligations.NewRejectsEveryOtherLength : Prop :=
  ∀ (k : List Bit) (s : State), k.length ≠ 64 →
    ∃ t, runWords (newKey k) s =
        .next ⟨t, List.replicate (k.length + 1) ⟨none, false, false⟩ ++ [⟨some .invalidKeyLength, false, false⟩]⟩ ∧
      t.kv = false ∧ t.wv = false ∧ t.kc = 0

/-- 42_step_and_keystream.md, section 5 (the rule there is marked derived): n STEP commands answer the keystream of length n
of the working state and leave it clocked n times. -/
def Obligations.StepsAnswerTheKeystream : Prop :=
  ∀ (n : Nat) (s : State), s.kv = true → s.wv = true →
    ∃ t, runWords (keystreamWords n) s =
        .next ⟨t, (keystream n s.working).map fun z => ⟨none, true, z⟩⟩ ∧
      t = { s with r1 := (clockN n s.working).r1, r2 := (clockN n s.working).r2,
                   r3 := (clockN n s.working).r3, rsp := t.rsp }

/-- 43_combine.md, section 4 (the rules there are marked derived): the message operation, its length, the state it leaves,
that DECRYPT is the same, and what happens without an engine. -/
def Obligations.MessagesAreCombinedWithTheKeystream : Prop :=
  (∀ (x : List Bit) (s : State), s.kv = true →
    ∃ t rs, runWords (encrypt x) s = .next ⟨t, rs⟩ ∧
      outputBits rs = List.zipWith (fun d z => d ^^ z) x (keystream x.length s.initial) ∧
      rs.length = x.length + 1 ∧ (∀ r ∈ rs, r.flt = none) ∧
      t.working = clockN x.length s.initial ∧ t.wv = true ∧ t.kv = true ∧
      t.initial = s.initial ∧ t.kb = s.kb ∧ t.kc = s.kc) ∧
  (∀ (x : List Bit) (s : State), runWords (decrypt x) s = runWords (encrypt x) s) ∧
  (∀ (x : List Bit) (s : State), s.kv = false →
    runWords (encrypt x) s =
      .next ⟨{ s with rsp := some ⟨some .noEngine, false, false⟩ },
        List.replicate (x.length + 1) ⟨some .noEngine, false, false⟩⟩)

/-- 43_combine.md, section 4 (the rule there is marked derived): the round trip. Decrypting the output of ENCRYPT p on any
engine that holds the same key returns p, whatever else the two engines hold. -/
def Obligations.DecryptUndoesEncrypt : Prop :=
  ∀ (p : List Bit) (s t : State), s.kv = true → t.kv = true → s.initial = t.initial →
    ∃ a b, runWords (encrypt p) s = .next a ∧
      runWords (decrypt (outputBits a.responses)) t = .next b ∧ outputBits b.responses = p

/-- 20_memory.md, sections 2 and 6: presenting words cycle by cycle at the port is running them in order (the list `inputs`
is the model's own, log entry 4). -/
def Obligations.PortCyclesRunTheWordsInOrder : Prop :=
  ∀ (ws : List CmdWord) (rest : List CycleIn) (s : State), s.inputs = ws.map commandCycle ++ rest →
    runCycles ws.length s = runWords ws { s with inputs := rest }

/-- 30_encoding.md, section 6: the words of the four pseudo-instructions, and their command counts. -/
def Obligations.PseudoInstructionsExpandToTheirWords : Prop :=
  (∀ k : List Bit, newKey k = 0x10 :: (k.map (fun d => if d then 0x21 else 0x20) ++ [0x30]) ∧
    (newKey k).length = k.length + 2) ∧
  (∀ n : Nat, keystreamWords n = List.replicate n 0x60) ∧
  (∀ p : List Bit, encrypt p = 0x40 :: p.map (fun d => if d then 0x81 else 0x80) ∧
    (encrypt p).length = p.length + 1) ∧
  (∀ c : List Bit, decrypt c = 0x40 :: c.map (fun d => if d then 0x91 else 0x90) ∧
    (decrypt c).length = c.length + 1)
end

