-- ==== Sys2Proof/Laws/Lfsr.lean ====
section
/-! SUPPORT. What the pure functions over bits and registers do, position by position. -/

namespace Sys2Proof.Machine

theorem getLsbD_writeBit {n : Nat} (x : BitVec n) (i j : Nat) (d : Bit) (hi : i < n) :
    (writeBit x i d).getLsbD j = if j = i then d else x.getLsbD j := by
  unfold writeBit
  by_cases h : j = i
  · subst h
    cases d <;> simp [hi]
  · have h' : ¬ i = j := fun e => h e.symm
    cases d <;> simp [BitVec.getLsbD_twoPow, h, h']
    intro hj
    exact BitVec.lt_of_getLsbD hj

theorem getLsbD_shiftIn {n : Nat} (x : BitVec n) (f : Bit) (i : Nat) (hi : i < n) :
    (shiftIn x f).getLsbD i = if i = 0 then f else x.getLsbD (i - 1) := by
  unfold shiftIn
  by_cases h : i = 0
  · subst h
    simp [hi]
  · have h1 : ¬ i < 1 := by omega
    have h2 : i - 1 < n := by omega
    simp [hi, h, h1, BitVec.getLsbD_ofBool, ← BitVec.getLsbD_eq_getElem h2]

theorem split_positions (k : KeyBits) (j : Nat) :
    (split k).r1.getLsbD j = (decide (j < 19) && k.getLsbD j) ∧
    (split k).r2.getLsbD j = (decide (j < 22) && k.getLsbD (19 + j)) ∧
    (split k).r3.getLsbD j = (decide (j < 23) && k.getLsbD (41 + j)) := by
  refine ⟨?_, ?_, ?_⟩ <;> simp [split, BitVec.getLsbD_extractLsb']

theorem clockRegister_of_agrees {n : Nat} {clk : Nat} {taps : List Nat} {m : Bit} {x : BitVec n}
    (h : x.getLsbD clk = m) : clockRegister clk taps m x = shiftIn x (feedback taps x) := if_pos h

theorem clockRegister_of_differs {n : Nat} {clk : Nat} {taps : List Nat} {m : Bit} {x : BitVec n}
    (h : x.getLsbD clk ≠ m) : clockRegister clk taps m x = x := if_neg h

@[simp] theorem clock_fst (w : Working) : (clock w).1 = advance w := rfl

@[simp] theorem clock_snd (w : Working) : (clock w).2 = outputBit (advance w) := rfl

@[simp] theorem clockN_zero (w : Working) : clockN 0 w = w := rfl

/-- One more cycle at the end: the cycles of a stream compose. -/
theorem clockN_succ (n : Nat) (w : Working) : clockN (n + 1) w = advance (clockN n w) := by
  induction n generalizing w with
  | zero => rfl
  | succ n ih => exact ih (advance w)

@[simp] theorem keystream_length (n : Nat) (w : Working) : (keystream n w).length = n := by
  induction n generalizing w with
  | zero => rfl
  | succ n ih => simp [keystream, ih]

end Sys2Proof.Machine
end

