-- ==== Sys2Proof/Laws/State.lean ====
section
/-! SUPPORT. One lemma per field per update of the state, and what the port operations leave in each field. -/

namespace Sys2Proof.Machine

@[simp] theorem State.setWorking_r1 (s : State) (w : Working) : (s.setWorking w).r1 = w.r1 := rfl
@[simp] theorem State.setWorking_r2 (s : State) (w : Working) : (s.setWorking w).r2 = w.r2 := rfl
@[simp] theorem State.setWorking_r3 (s : State) (w : Working) : (s.setWorking w).r3 = w.r3 := rfl
@[simp] theorem State.setWorking_i1 (s : State) (w : Working) : (s.setWorking w).i1 = s.i1 := rfl
@[simp] theorem State.setWorking_i2 (s : State) (w : Working) : (s.setWorking w).i2 = s.i2 := rfl
@[simp] theorem State.setWorking_i3 (s : State) (w : Working) : (s.setWorking w).i3 = s.i3 := rfl
@[simp] theorem State.setWorking_kv (s : State) (w : Working) : (s.setWorking w).kv = s.kv := rfl
@[simp] theorem State.setWorking_wv (s : State) (w : Working) : (s.setWorking w).wv = s.wv := rfl
@[simp] theorem State.setWorking_kb (s : State) (w : Working) : (s.setWorking w).kb = s.kb := rfl
@[simp] theorem State.setWorking_kc (s : State) (w : Working) : (s.setWorking w).kc = s.kc := rfl
@[simp] theorem State.setWorking_rsp (s : State) (w : Working) : (s.setWorking w).rsp = s.rsp := rfl
@[simp] theorem State.setWorking_inputs (s : State) (w : Working) : (s.setWorking w).inputs = s.inputs := rfl
@[simp] theorem State.setWorking_draws (s : State) (w : Working) : (s.setWorking w).draws = s.draws := rfl

@[simp] theorem State.setInitial_r1 (s : State) (w : Working) : (s.setInitial w).r1 = s.r1 := rfl
@[simp] theorem State.setInitial_r2 (s : State) (w : Working) : (s.setInitial w).r2 = s.r2 := rfl
@[simp] theorem State.setInitial_r3 (s : State) (w : Working) : (s.setInitial w).r3 = s.r3 := rfl
@[simp] theorem State.setInitial_i1 (s : State) (w : Working) : (s.setInitial w).i1 = w.r1 := rfl
@[simp] theorem State.setInitial_i2 (s : State) (w : Working) : (s.setInitial w).i2 = w.r2 := rfl
@[simp] theorem State.setInitial_i3 (s : State) (w : Working) : (s.setInitial w).i3 = w.r3 := rfl
@[simp] theorem State.setInitial_kv (s : State) (w : Working) : (s.setInitial w).kv = s.kv := rfl
@[simp] theorem State.setInitial_wv (s : State) (w : Working) : (s.setInitial w).wv = s.wv := rfl
@[simp] theorem State.setInitial_kb (s : State) (w : Working) : (s.setInitial w).kb = s.kb := rfl
@[simp] theorem State.setInitial_kc (s : State) (w : Working) : (s.setInitial w).kc = s.kc := rfl
@[simp] theorem State.setInitial_rsp (s : State) (w : Working) : (s.setInitial w).rsp = s.rsp := rfl
@[simp] theorem State.setInitial_inputs (s : State) (w : Working) : (s.setInitial w).inputs = s.inputs := rfl
@[simp] theorem State.setInitial_draws (s : State) (w : Working) : (s.setInitial w).draws = s.draws := rfl

@[simp] theorem State.setFlags_r1 (s : State) (a b : Bit) : (s.setFlags a b).r1 = s.r1 := rfl
@[simp] theorem State.setFlags_r2 (s : State) (a b : Bit) : (s.setFlags a b).r2 = s.r2 := rfl
@[simp] theorem State.setFlags_r3 (s : State) (a b : Bit) : (s.setFlags a b).r3 = s.r3 := rfl
@[simp] theorem State.setFlags_i1 (s : State) (a b : Bit) : (s.setFlags a b).i1 = s.i1 := rfl
@[simp] theorem State.setFlags_i2 (s : State) (a b : Bit) : (s.setFlags a b).i2 = s.i2 := rfl
@[simp] theorem State.setFlags_i3 (s : State) (a b : Bit) : (s.setFlags a b).i3 = s.i3 := rfl
@[simp] theorem State.setFlags_kv (s : State) (a b : Bit) : (s.setFlags a b).kv = a := rfl
@[simp] theorem State.setFlags_wv (s : State) (a b : Bit) : (s.setFlags a b).wv = b := rfl
@[simp] theorem State.setFlags_kb (s : State) (a b : Bit) : (s.setFlags a b).kb = s.kb := rfl
@[simp] theorem State.setFlags_kc (s : State) (a b : Bit) : (s.setFlags a b).kc = s.kc := rfl
@[simp] theorem State.setFlags_rsp (s : State) (a b : Bit) : (s.setFlags a b).rsp = s.rsp := rfl
@[simp] theorem State.setFlags_inputs (s : State) (a b : Bit) : (s.setFlags a b).inputs = s.inputs := rfl
@[simp] theorem State.setFlags_draws (s : State) (a b : Bit) : (s.setFlags a b).draws = s.draws := rfl

@[simp] theorem State.setBuffer_r1 (s : State) (k : KeyBits) : (s.setBuffer k).r1 = s.r1 := rfl
@[simp] theorem State.setBuffer_r2 (s : State) (k : KeyBits) : (s.setBuffer k).r2 = s.r2 := rfl
@[simp] theorem State.setBuffer_r3 (s : State) (k : KeyBits) : (s.setBuffer k).r3 = s.r3 := rfl
@[simp] theorem State.setBuffer_i1 (s : State) (k : KeyBits) : (s.setBuffer k).i1 = s.i1 := rfl
@[simp] theorem State.setBuffer_i2 (s : State) (k : KeyBits) : (s.setBuffer k).i2 = s.i2 := rfl
@[simp] theorem State.setBuffer_i3 (s : State) (k : KeyBits) : (s.setBuffer k).i3 = s.i3 := rfl
@[simp] theorem State.setBuffer_kv (s : State) (k : KeyBits) : (s.setBuffer k).kv = s.kv := rfl
@[simp] theorem State.setBuffer_wv (s : State) (k : KeyBits) : (s.setBuffer k).wv = s.wv := rfl
@[simp] theorem State.setBuffer_kb (s : State) (k : KeyBits) : (s.setBuffer k).kb = k := rfl
@[simp] theorem State.setBuffer_kc (s : State) (k : KeyBits) : (s.setBuffer k).kc = s.kc := rfl
@[simp] theorem State.setBuffer_rsp (s : State) (k : KeyBits) : (s.setBuffer k).rsp = s.rsp := rfl
@[simp] theorem State.setBuffer_inputs (s : State) (k : KeyBits) : (s.setBuffer k).inputs = s.inputs := rfl
@[simp] theorem State.setBuffer_draws (s : State) (k : KeyBits) : (s.setBuffer k).draws = s.draws := rfl

@[simp] theorem State.setCount_r1 (s : State) (n : Counter) : (s.setCount n).r1 = s.r1 := rfl
@[simp] theorem State.setCount_r2 (s : State) (n : Counter) : (s.setCount n).r2 = s.r2 := rfl
@[simp] theorem State.setCount_r3 (s : State) (n : Counter) : (s.setCount n).r3 = s.r3 := rfl
@[simp] theorem State.setCount_i1 (s : State) (n : Counter) : (s.setCount n).i1 = s.i1 := rfl
@[simp] theorem State.setCount_i2 (s : State) (n : Counter) : (s.setCount n).i2 = s.i2 := rfl
@[simp] theorem State.setCount_i3 (s : State) (n : Counter) : (s.setCount n).i3 = s.i3 := rfl
@[simp] theorem State.setCount_kv (s : State) (n : Counter) : (s.setCount n).kv = s.kv := rfl
@[simp] theorem State.setCount_wv (s : State) (n : Counter) : (s.setCount n).wv = s.wv := rfl
@[simp] theorem State.setCount_kb (s : State) (n : Counter) : (s.setCount n).kb = s.kb := rfl
@[simp] theorem State.setCount_kc (s : State) (n : Counter) : (s.setCount n).kc = n := rfl
@[simp] theorem State.setCount_rsp (s : State) (n : Counter) : (s.setCount n).rsp = s.rsp := rfl
@[simp] theorem State.setCount_inputs (s : State) (n : Counter) : (s.setCount n).inputs = s.inputs := rfl
@[simp] theorem State.setCount_draws (s : State) (n : Counter) : (s.setCount n).draws = s.draws := rfl

@[simp] theorem State.setRsp_r1 (s : State) (r : Option Response) : (s.setRsp r).r1 = s.r1 := rfl
@[simp] theorem State.setRsp_r2 (s : State) (r : Option Response) : (s.setRsp r).r2 = s.r2 := rfl
@[simp] theorem State.setRsp_r3 (s : State) (r : Option Response) : (s.setRsp r).r3 = s.r3 := rfl
@[simp] theorem State.setRsp_i1 (s : State) (r : Option Response) : (s.setRsp r).i1 = s.i1 := rfl
@[simp] theorem State.setRsp_i2 (s : State) (r : Option Response) : (s.setRsp r).i2 = s.i2 := rfl
@[simp] theorem State.setRsp_i3 (s : State) (r : Option Response) : (s.setRsp r).i3 = s.i3 := rfl
@[simp] theorem State.setRsp_kv (s : State) (r : Option Response) : (s.setRsp r).kv = s.kv := rfl
@[simp] theorem State.setRsp_wv (s : State) (r : Option Response) : (s.setRsp r).wv = s.wv := rfl
@[simp] theorem State.setRsp_kb (s : State) (r : Option Response) : (s.setRsp r).kb = s.kb := rfl
@[simp] theorem State.setRsp_kc (s : State) (r : Option Response) : (s.setRsp r).kc = s.kc := rfl
@[simp] theorem State.setRsp_rsp (s : State) (r : Option Response) : (s.setRsp r).rsp = r := rfl
@[simp] theorem State.setRsp_inputs (s : State) (r : Option Response) : (s.setRsp r).inputs = s.inputs := rfl
@[simp] theorem State.setRsp_draws (s : State) (r : Option Response) : (s.setRsp r).draws = s.draws := rfl

@[simp] theorem State.setInputs_r1 (s : State) (cs : List CycleIn) : (s.setInputs cs).r1 = s.r1 := rfl
@[simp] theorem State.setInputs_r2 (s : State) (cs : List CycleIn) : (s.setInputs cs).r2 = s.r2 := rfl
@[simp] theorem State.setInputs_r3 (s : State) (cs : List CycleIn) : (s.setInputs cs).r3 = s.r3 := rfl
@[simp] theorem State.setInputs_i1 (s : State) (cs : List CycleIn) : (s.setInputs cs).i1 = s.i1 := rfl
@[simp] theorem State.setInputs_i2 (s : State) (cs : List CycleIn) : (s.setInputs cs).i2 = s.i2 := rfl
@[simp] theorem State.setInputs_i3 (s : State) (cs : List CycleIn) : (s.setInputs cs).i3 = s.i3 := rfl
@[simp] theorem State.setInputs_kv (s : State) (cs : List CycleIn) : (s.setInputs cs).kv = s.kv := rfl
@[simp] theorem State.setInputs_wv (s : State) (cs : List CycleIn) : (s.setInputs cs).wv = s.wv := rfl
@[simp] theorem State.setInputs_kb (s : State) (cs : List CycleIn) : (s.setInputs cs).kb = s.kb := rfl
@[simp] theorem State.setInputs_kc (s : State) (cs : List CycleIn) : (s.setInputs cs).kc = s.kc := rfl
@[simp] theorem State.setInputs_rsp (s : State) (cs : List CycleIn) : (s.setInputs cs).rsp = s.rsp := rfl
@[simp] theorem State.setInputs_inputs (s : State) (cs : List CycleIn) : (s.setInputs cs).inputs = cs := rfl
@[simp] theorem State.setInputs_draws (s : State) (cs : List CycleIn) : (s.setInputs cs).draws = s.draws := rfl

@[simp] theorem respondOk_r1 (s : State) : (respondOk s).r1 = s.r1 := rfl
@[simp] theorem respondOk_r2 (s : State) : (respondOk s).r2 = s.r2 := rfl
@[simp] theorem respondOk_r3 (s : State) : (respondOk s).r3 = s.r3 := rfl
@[simp] theorem respondOk_i1 (s : State) : (respondOk s).i1 = s.i1 := rfl
@[simp] theorem respondOk_i2 (s : State) : (respondOk s).i2 = s.i2 := rfl
@[simp] theorem respondOk_i3 (s : State) : (respondOk s).i3 = s.i3 := rfl
@[simp] theorem respondOk_kv (s : State) : (respondOk s).kv = s.kv := rfl
@[simp] theorem respondOk_wv (s : State) : (respondOk s).wv = s.wv := rfl
@[simp] theorem respondOk_kb (s : State) : (respondOk s).kb = s.kb := rfl
@[simp] theorem respondOk_kc (s : State) : (respondOk s).kc = s.kc := rfl
@[simp] theorem respondOk_rsp (s : State) : (respondOk s).rsp = some ⟨none, false, false⟩ := rfl
@[simp] theorem respondOk_inputs (s : State) : (respondOk s).inputs = s.inputs := rfl
@[simp] theorem respondOk_draws (s : State) : (respondOk s).draws = s.draws := rfl

@[simp] theorem respondBit_r1 (b : Bit) (s : State) : (respondBit b s).r1 = s.r1 := rfl
@[simp] theorem respondBit_r2 (b : Bit) (s : State) : (respondBit b s).r2 = s.r2 := rfl
@[simp] theorem respondBit_r3 (b : Bit) (s : State) : (respondBit b s).r3 = s.r3 := rfl
@[simp] theorem respondBit_i1 (b : Bit) (s : State) : (respondBit b s).i1 = s.i1 := rfl
@[simp] theorem respondBit_i2 (b : Bit) (s : State) : (respondBit b s).i2 = s.i2 := rfl
@[simp] theorem respondBit_i3 (b : Bit) (s : State) : (respondBit b s).i3 = s.i3 := rfl
@[simp] theorem respondBit_kv (b : Bit) (s : State) : (respondBit b s).kv = s.kv := rfl
@[simp] theorem respondBit_wv (b : Bit) (s : State) : (respondBit b s).wv = s.wv := rfl
@[simp] theorem respondBit_kb (b : Bit) (s : State) : (respondBit b s).kb = s.kb := rfl
@[simp] theorem respondBit_kc (b : Bit) (s : State) : (respondBit b s).kc = s.kc := rfl
@[simp] theorem respondBit_rsp (b : Bit) (s : State) : (respondBit b s).rsp = some ⟨none, true, b⟩ := rfl
@[simp] theorem respondBit_inputs (b : Bit) (s : State) : (respondBit b s).inputs = s.inputs := rfl
@[simp] theorem respondBit_draws (b : Bit) (s : State) : (respondBit b s).draws = s.draws := rfl

@[simp] theorem raise_r1 (f : FaultCause) (s : State) : (raise f s).r1 = s.r1 := rfl
@[simp] theorem raise_r2 (f : FaultCause) (s : State) : (raise f s).r2 = s.r2 := rfl
@[simp] theorem raise_r3 (f : FaultCause) (s : State) : (raise f s).r3 = s.r3 := rfl
@[simp] theorem raise_i1 (f : FaultCause) (s : State) : (raise f s).i1 = s.i1 := rfl
@[simp] theorem raise_i2 (f : FaultCause) (s : State) : (raise f s).i2 = s.i2 := rfl
@[simp] theorem raise_i3 (f : FaultCause) (s : State) : (raise f s).i3 = s.i3 := rfl
@[simp] theorem raise_kv (f : FaultCause) (s : State) : (raise f s).kv = s.kv := rfl
@[simp] theorem raise_wv (f : FaultCause) (s : State) : (raise f s).wv = s.wv := rfl
@[simp] theorem raise_kb (f : FaultCause) (s : State) : (raise f s).kb = s.kb := rfl
@[simp] theorem raise_kc (f : FaultCause) (s : State) : (raise f s).kc = s.kc := rfl
@[simp] theorem raise_rsp (f : FaultCause) (s : State) : (raise f s).rsp = some ⟨some f, false, false⟩ := rfl
@[simp] theorem raise_inputs (f : FaultCause) (s : State) : (raise f s).inputs = s.inputs := rfl
@[simp] theorem raise_draws (f : FaultCause) (s : State) : (raise f s).draws = s.draws := rfl

@[simp] theorem idle_r1 (s : State) : (idle s).r1 = s.r1 := rfl
@[simp] theorem idle_r2 (s : State) : (idle s).r2 = s.r2 := rfl
@[simp] theorem idle_r3 (s : State) : (idle s).r3 = s.r3 := rfl
@[simp] theorem idle_i1 (s : State) : (idle s).i1 = s.i1 := rfl
@[simp] theorem idle_i2 (s : State) : (idle s).i2 = s.i2 := rfl
@[simp] theorem idle_i3 (s : State) : (idle s).i3 = s.i3 := rfl
@[simp] theorem idle_kv (s : State) : (idle s).kv = s.kv := rfl
@[simp] theorem idle_wv (s : State) : (idle s).wv = s.wv := rfl
@[simp] theorem idle_kb (s : State) : (idle s).kb = s.kb := rfl
@[simp] theorem idle_kc (s : State) : (idle s).kc = s.kc := rfl
@[simp] theorem idle_rsp (s : State) : (idle s).rsp = none := rfl
@[simp] theorem idle_inputs (s : State) : (idle s).inputs = s.inputs := rfl
@[simp] theorem idle_draws (s : State) : (idle s).draws = s.draws := rfl

@[simp] theorem State.setWorking_working (s : State) (w : Working) : (s.setWorking w).working = w := rfl
@[simp] theorem State.setInitial_initial (s : State) (w : Working) : (s.setInitial w).initial = w := rfl
@[simp] theorem hardwareReset_kv (s : State) : (hardwareReset s).kv = false := rfl
@[simp] theorem hardwareReset_wv (s : State) : (hardwareReset s).wv = false := rfl
@[simp] theorem hardwareReset_kc (s : State) : (hardwareReset s).kc = 0 := rfl
@[simp] theorem hardwareReset_rsp (s : State) : (hardwareReset s).rsp = none := rfl
@[simp] theorem hardwareReset_inputs (s : State) : (hardwareReset s).inputs = s.inputs := rfl
@[simp] theorem hardwareReset_draws (s : State) : (hardwareReset s).draws = s.draws + 1 := rfl

end Sys2Proof.Machine
end

