-- ==== Sys2Proof/Laws/Ops.lean ====
section
/-! SUPPORT. For each shared operation one lemma that says everything it can do. -/

namespace Sys2Proof.Machine

theorem needEngine_cases {s ok t : State} (h : needEngine s ok = .next t) :
    (s.kv = true ∧ t = ok) ∨ (s.kv = false ∧ t = raise .noEngine s) := by
  unfold needEngine at h
  cases hk : s.kv <;> simp [hk] at h <;> simp [h]

theorem needStream_cases {s ok t : State} (h : needStream s ok = .next t) :
    (s.kv = true ∧ s.wv = true ∧ t = ok) ∨ (s.kv = true ∧ s.wv = false ∧ t = raise .noStream s) ∨
      (s.kv = false ∧ t = raise .noEngine s) := by
  rcases needEngine_cases h with ⟨hk, rfl⟩ | ⟨hk, rfl⟩
  · cases hw : s.wv <;> simp [hk]
  · simp [hk]

theorem needEngine_eq (s ok : State) :
    needEngine s ok = .next (if s.kv then ok else raise .noEngine s) := by
  unfold needEngine; split <;> rfl

theorem needStream_eq (s ok : State) :
    needStream s ok =
      .next (if s.kv then (if s.wv then ok else raise .noStream s) else raise .noEngine s) :=
  needEngine_eq s _

theorem needEngine_of_key {s : State} (h : s.kv = true) (ok : State) : needEngine s ok = .next ok := by
  rw [needEngine_eq, if_pos h]

theorem needEngine_of_noKey {s : State} (h : s.kv = false) (ok : State) :
    needEngine s ok = .next (raise .noEngine s) := by
  rw [needEngine_eq, h]; rfl

theorem needStream_of_stream {s : State} (h : s.kv = true) (h' : s.wv = true) (ok : State) :
    needStream s ok = .next ok := by
  rw [needStream_eq, if_pos h, if_pos h']

theorem needStream_of_noStream {s : State} (h : s.kv = true) (h' : s.wv = false) (ok : State) :
    needStream s ok = .next (raise .noStream s) := by
  rw [needStream_eq, if_pos h, h']; rfl

theorem needStream_of_noKey {s : State} (h : s.kv = false) (ok : State) :
    needStream s ok = .next (raise .noEngine s) := by
  rw [needStream_eq, h]; rfl

theorem enterKeyBit_cases (d : Bit) (s : State) :
    (s.kc.toNat < 64 ∧
      enterKeyBit d s = (s.setBuffer (writeBit s.kb s.kc.toNat d)).setCount (s.kc + 1)) ∨
    (64 ≤ s.kc.toNat ∧ enterKeyBit d s = s.setCount 65) := by
  unfold enterKeyBit keyLen kcTooMany
  by_cases h : s.kc.toNat < 64
  · exact .inl ⟨h, if_pos h⟩
  · exact .inr ⟨by omega, if_neg h⟩

/-- KBIT counts one up to 65 and no further, whatever the count was. -/
theorem enterKeyBit_count_le (d : Bit) (s : State) : (enterKeyBit d s).kc.toNat ≤ 65 := by
  rcases enterKeyBit_cases d s with ⟨h, e⟩ | ⟨_, e⟩
  · rw [e, State.setCount_kc, BitVec.toNat_add]
    exact (Nat.mod_le _ _).trans (by simp; omega)
  · rw [e, State.setCount_kc]; decide

theorem acceptKey_eq (s : State) :
    acceptKey s = { s with i1 := (split s.kb).r1, i2 := (split s.kb).r2, i3 := (split s.kb).r3,
                           kv := true, wv := false, kc := 0 } := rfl

theorem rejectKey_eq (s : State) : rejectKey s = { s with kv := false, wv := false, kc := 0 } := rfl

theorem startStream_eq (s : State) :
    startStream s = { s with r1 := s.i1, r2 := s.i2, r3 := s.i3, wv := true } := rfl

theorem clockState_eq (s : State) :
    clockState s = { s with r1 := (advance s.working).r1, r2 := (advance s.working).r2,
                            r3 := (advance s.working).r3 } := rfl

end Sys2Proof.Machine
end

