-- ==== Sys2Proof/Laws/Exec.lean ====
section
/-! SUPPORT. What each command answers, as one equation over the shared operations. -/

namespace Sys2Proof.Machine

theorem exec_nop (s : State) : exec .nop s = .next (respondOk s) := rfl

theorem exec_kclr (s : State) : exec .kclr s = .next (respondOk (s.setCount 0)) := rfl

theorem exec_kbit (d : Bit) (s : State) : exec (.kbit d) s = .next (respondOk (enterKeyBit d s)) := rfl

theorem exec_kend (s : State) :
    exec .kend s =
      .next (if s.kc.toNat = 64 then respondOk (acceptKey s) else raise .invalidKeyLength (rejectKey s)) := by
  by_cases h : s.kc.toNat = 64 <;> simp [exec, execKend, keyLen, h]

theorem exec_reset (s : State) :
    exec .reset s = .next (if s.kv then respondOk (startStream s) else raise .noEngine s) :=
  needEngine_eq s _

theorem exec_maj (s : State) :
    exec .maj s = .next (if s.kv then (if s.wv then respondBit (vote s.working) s else raise .noStream s)
      else raise .noEngine s) :=
  needStream_eq s _

theorem exec_step (s : State) :
    exec .step s = .next (if s.kv then (if s.wv then respondBit (streamBit s) (clockState s) else raise .noStream s)
      else raise .noEngine s) :=
  needStream_eq s _

theorem exec_enc (d : Bit) (s : State) :
    exec (.enc d) s = .next (if s.kv then
      (if s.wv then respondBit (combine d (streamBit s)) (clockState s) else raise .noStream s)
      else raise .noEngine s) :=
  needStream_eq s _

theorem exec_dec (d : Bit) (s : State) :
    exec (.dec d) s = .next (if s.kv then
      (if s.wv then respondBit (combine d (streamBit s)) (clockState s) else raise .noStream s)
      else raise .noEngine s) :=
  needStream_eq s _

end Sys2Proof.Machine
end

