-- ==== Sys2Proof/Laws/PerInstr.lean ====
section
/-! SUPPORT. The family EncodingLegal: what is true of every command's own word, command by command. -/

namespace Sys2Proof.Laws.EncodingLegal

/-- The command's word is legal, matches its row of rule R48 under its format's mask, and carries its operand in `W[0]`. -/
def Statement (i : Instr) : Prop :=
  legalWord (encode i) = true ∧ encode i &&& i.format.mask = i.matchBits ∧ dField (encode i) = i.operand

theorem nop : Statement .nop := by unfold Statement; decide

theorem kclr : Statement .kclr := by unfold Statement; decide

theorem kbit (d : Bit) : Statement (.kbit d) := by unfold Statement; cases d <;> decide

theorem kend : Statement .kend := by unfold Statement; decide

theorem reset : Statement .reset := by unfold Statement; decide

theorem maj : Statement .maj := by unfold Statement; decide

theorem step : Statement .step := by unfold Statement; decide

theorem enc (d : Bit) : Statement (.enc d) := by unfold Statement; cases d <;> decide

theorem dec (d : Bit) : Statement (.dec d) := by unfold Statement; cases d <;> decide

end Sys2Proof.Laws.EncodingLegal
end

