-- ==== Sys2Proof/Laws/Step.lean ====
section
/-! SUPPORT. What a presented word and a cycle of the ports can do, and how runs unfold. -/

namespace Sys2Proof.Machine

theorem present_of_command {w : CmdWord} {i : Instr} (h : decode w = .command i) (s : State) :
    present w s = exec i s := by
  simp [present, h]

theorem present_of_illegal {w : CmdWord} {why : Reject} (h : decode w = .illegal why) (s : State) :
    present w s = .next (raise .illegalCommand s) := by
  simp [present, h]

/-- Everything a step can do. -/
theorem step_cases (s : State) :
    (s.inputs = [] ∧ step s = .next (idle s)) ∨
    (∃ c cs, s.inputs = c :: cs ∧ c.rst = true ∧ step s = .next (hardwareReset (s.setInputs cs))) ∨
    (∃ c cs, s.inputs = c :: cs ∧ c.rst = false ∧ c.cmdValid = false ∧
      step s = .next (idle (s.setInputs cs))) ∨
    (∃ c cs, s.inputs = c :: cs ∧ c.rst = false ∧ c.cmdValid = true ∧
      step s = present c.cmd (s.setInputs cs)) := by
  unfold step tick
  cases h : s.inputs with
  | nil => exact .inl ⟨rfl, rfl⟩
  | cons c cs =>
    refine .inr ?_
    unfold cycle
    cases hr : c.rst
    · cases hv : c.cmdValid
      · exact .inr (.inl ⟨c, cs, rfl, hr, hv, by simp [hr, hv]⟩)
      · exact .inr (.inr ⟨c, cs, rfl, hr, hv, by simp [hr, hv]⟩)
    · exact .inl ⟨c, cs, rfl, hr, by simp [hr]⟩

@[simp] theorem runWords_nil (s : State) : runWords [] s = .next ⟨s, []⟩ := rfl

/-- A run of one word and then the rest, when the word answers a next state and the rest runs through. -/
theorem runWords_cons {w : CmdWord} {ws : List CmdWord} {s t : State} {r : Run}
    (h : present w s = .next t) (hr : runWords ws t = .next r) :
    runWords (w :: ws) s = .next ⟨r.final, t.rsp.toList ++ r.responses⟩ := by
  simp [runWords, h, hr]

/-- Everything a run of one word and then the rest can answer. -/
theorem runWords_cons_next {w : CmdWord} {ws : List CmdWord} {s : State} {a : Run}
    (h : runWords (w :: ws) s = .next a) :
    ∃ t r, present w s = .next t ∧ runWords ws t = .next r ∧
      a = ⟨r.final, t.rsp.toList ++ r.responses⟩ := by
  simp only [runWords] at h
  split at h
  · next t ht =>
    split at h
    · next r hr => exact ⟨t, r, ht, hr, by cases h; rfl⟩
    · cases h
    · cases h
  · cases h
  · cases h

/-- Runs compose: the responses of the first part come first. -/
theorem runWords_append {ws vs : List CmdWord} {s : State} {a b : Run}
    (ha : runWords ws s = .next a) (hb : runWords vs a.final = .next b) :
    runWords (ws ++ vs) s = .next ⟨b.final, a.responses ++ b.responses⟩ := by
  induction ws generalizing s a with
  | nil => cases ha; exact hb
  | cons w ws ih =>
    obtain ⟨t, r, hp, hr, rfl⟩ := runWords_cons_next ha
    simpa using runWords_cons hp (ih hr hb)

end Sys2Proof.Machine
end

