-- ==== Sys2Proof/Tests/Slice0.lean ====
section
/-! SUPPORT. The session's own tests: expected values are those of 95_test_vectors.md and of the rules' examples. The
theorems named witness_ show a state and operands that meet the hypotheses of the statement they are named after. -/

namespace Sys2Proof.Tests

open Sys2Proof.Machine

/-- The state a step or a command answers, if it answers one. -/
def after (o : Host.Outcome State Fault Refusal) : Option State :=
  match o with
  | .next t => some t
  | .fault _ => none
  | .refused _ => none

/-- Key KA accepted, no stream yet (V-RST-2: KV = 1, WV = 0). -/
def keyed : State := { State.reset with i1 := 0x13DCB, i2 := 0x24AF6D, i3 := 0x0D92F7, kv := true }

/-- Key KA in force and a stream with these working registers. -/
def stream (a : Reg1) (b : Reg2) (c : Reg3) : State := { keyed with r1 := a, r2 := b, r3 := c, wv := true }

/-- The working state right after `NEW KA`, `RESET`. -/
def fresh : State := stream 0x13DCB 0x24AF6D 0x0D92F7

/-- No key in force and this many key bits entered. -/
def entered (n : Counter) : State := { State.reset with kc := n }

/-- A state in which the host presents this word next. -/
def presented (w : CmdWord) : State := { fresh with inputs := [commandCycle w] }

/-! Words: well-formedness, decoding, encoding. -/

theorem test_reservedClear_refuses : reservedClear 0x02 = false ∧ legalWord 0x02 = false := by decide

theorem test_opcodeAssigned_refuses : opcodeAssigned 0x70 = false ∧ legalWord 0x70 = false := by decide

theorem test_operandAllowed_refuses : operandAllowed 0x61 = false ∧ legalWord 0x61 = false := by decide

theorem test_legal_words_are_twelve :
    ((List.range 256).filter fun n => legalWord (BitVec.ofNat 8 n)) =
      [0x00, 0x10, 0x20, 0x21, 0x30, 0x40, 0x50, 0x60, 0x80, 0x81, 0x90, 0x91] := by decide +kernel

/-- 2.1: the words of the key-load family, bit by bit from rule R48. -/
theorem test_decode_keyLoad :
    decode 0b00000000 = .command .nop ∧ decode 0b00010000 = .command .kclr ∧
    decode 0b00100001 = .command (.kbit true) ∧ decode 0b00110000 = .command .kend := by decide

/-- 2.1: the words of the reset, vote, step and combine families. -/
theorem test_decode_stream :
    decode 0b01000000 = .command .reset ∧ decode 0b01010000 = .command .maj ∧
    decode 0b01100000 = .command .step ∧ decode 0b10000000 = .command (.enc false) ∧
    decode 0b10010001 = .command (.dec true) := by decide

/-- 2.1: illegal words, each by the name of its group (rule R50). -/
theorem test_decode_rejects :
    decode 0x22 = .illegal .reservedBits ∧ decode 0x08 = .illegal .reservedBits ∧
    decode 0x70 = .illegal .reservedOpcode ∧ decode 0xF0 = .illegal .reservedOpcode ∧
    decode 0x61 = .illegal .operandInFormatZ ∧ decode 0x01 = .illegal .operandInFormatZ := by decide

theorem test_encode_formatD : encode (.kbit true) = 0x21 ∧ encode (.enc false) = 0x80 ∧ encode (.dec true) = 0x91 := by
  decide

theorem test_decodeTableWord : decodeTableWord 8 0x81 = some (.enc true) ∧ decodeTableWord 8 0xA0 = none := by decide

/-! The pure functions. -/

/-- Rule R64's example: the split of key KA, written from its bit string (position 0 first). -/
theorem test_split_KA :
    split 0x1B25EF257B693DCB = ⟨0x13DCB, 0x24AF6D, 0x0D92F7⟩ := by decide

/-- S1, the source's three majority examples. -/
theorem test_majority_examples :
    maj true true false = true ∧ maj false false true = false ∧ maj true false false = false := by decide

/-- 2.4, rows b, d, e, j, q, v of the table of Clock. -/
theorem test_clock_rows :
    clock ⟨0x7FFFF, 0x3FFFFF, 0x7FFFFF⟩ = (⟨0x7FFFE, 0x3FFFFE, 0x7FFFFE⟩, true) ∧
    clock ⟨0x40000, 0, 0⟩ = (⟨0x00001, 0, 0⟩, false) ∧
    clock ⟨0x20000, 0, 0⟩ = (⟨0x40001, 0, 0⟩, true) ∧
    clock ⟨0, 0, 0x000080⟩ = (⟨0, 0, 0x000101⟩, false) ∧
    clock ⟨0x40000, 0, 0x000400⟩ = (⟨0x00001, 0, 0x000400⟩, false) ∧
    clock ⟨0x13DCB, 0x24AF6D, 0x0D92F7⟩ = (⟨0x27B96, 0x095EDB, 0x0D92F7⟩, false) := by decide

/-- 2.4, rows f, g, h, i, k, l, l2, n, o: the other taps and the other held registers. -/
theorem test_clock_taps :
    clock ⟨0x10000, 0, 0⟩ = (⟨0x20001, 0, 0⟩, false) ∧ clock ⟨0x02000, 0, 0⟩ = (⟨0x04001, 0, 0⟩, false) ∧
    clock ⟨0, 0x200000, 0⟩ = (⟨0, 0x000001, 0⟩, false) ∧ clock ⟨0, 0x100000, 0⟩ = (⟨0, 0x200001, 0⟩, true) ∧
    clock ⟨0, 0, 0x400000⟩ = (⟨0, 0, 0x000001⟩, false) ∧ clock ⟨0, 0, 0x200000⟩ = (⟨0, 0, 0x400001⟩, true) ∧
    clock ⟨0, 0, 0x100000⟩ = (⟨0, 0, 0x200001⟩, false) ∧
    clock ⟨0, 0x000400, 0x000400⟩ = (⟨0, 0x000800, 0x000800⟩, false) ∧
    clock ⟨0x00100, 0, 0x000400⟩ = (⟨0x00200, 0, 0x000800⟩, false) := by decide

/-- P1: the first eight keystream bits of key KA and the registers after them. -/
theorem test_keystream_KA :
    keystream 8 ⟨0x13DCB, 0x24AF6D, 0x0D92F7⟩ = [false, true, true, false, false, false, true, false] ∧
    clockN 8 ⟨0x13DCB, 0x24AF6D, 0x0D92F7⟩ = ⟨0x6E580, 0x17B6DB, 0x592F7B⟩ := by decide

/-! The commands. -/

theorem test_nop : (after (exec .nop State.reset)).map (fun t => (t.kc, t.rsp)) = some (0, some ⟨none, false, false⟩) := by
  decide

/-- Rule R61's example: KC = 37. -/
theorem test_kclr : (after (exec .kclr (entered 37))).map (fun t => (t.kc, t.rsp)) =
    some (0, some ⟨none, false, false⟩) := by decide

/-- Rule R62's example and its last writing case (KC = 63). -/
theorem test_kbit_writes :
    (after (exec (.kbit true) (entered 0))).map (fun t => (t.kb, t.kc)) = some (1, 1) ∧
    (after (exec (.kbit true) (entered 63))).map (fun t => (t.kb, t.kc)) = some (0x8000000000000000, 64) := by decide

/-- Rule R62: the 65th bit is dropped and KC saturates. -/
theorem test_kbit_saturates :
    (after (exec (.kbit true) (entered 64))).map (fun t => (t.kb, t.kc)) = some (0, 65) ∧
    (after (exec (.kbit true) (entered 65))).map (fun t => (t.kb, t.kc)) = some (0, 65) := by decide

/-- V-KEY-4: 64 ones. -/
theorem test_kend_accepts :
    (after (exec .kend { entered 64 with kb := 0xFFFFFFFFFFFFFFFF })).map
        (fun t => (t.initial, t.kv, t.wv, t.kc, t.rsp)) =
      some (⟨0x7FFFF, 0x3FFFFF, 0x7FFFFF⟩, true, false, 0, some ⟨none, false, false⟩) := by decide

/-- V-KEY-3, and a stray KEND in mid-message (P3): the engine is gone. -/
theorem test_kend_rejects :
    (after (exec .kend (entered 63))).map (fun t => (t.kv, t.kc, t.rsp)) =
      some (false, 0, some ⟨some .invalidKeyLength, false, false⟩) ∧
    (after (exec .kend fresh)).map (fun t => (t.kv, t.wv, t.r1)) = some (false, false, 0x13DCB) := by decide

/-- V-RST-3. -/
theorem test_reset_restores :
    (after (exec .reset (stream 0x6E580 0x17B6DB 0x592F7B))).map (fun t => (t.working, t.wv, t.rsp)) =
      some (⟨0x13DCB, 0x24AF6D, 0x0D92F7⟩, true, some ⟨none, false, false⟩) := by decide

/-- V-RST-1. -/
theorem test_reset_noEngine :
    (after (exec .reset State.reset)).map (fun t => (t.wv, t.rsp)) = some (false, some ⟨some .noEngine, false, false⟩) := by
  decide

/-- V-MAJ-3, V-MAJ-4, V-MAJ-5. -/
theorem test_maj_votes :
    (after (exec .maj fresh)).map (·.rsp) = some (some ⟨none, true, true⟩) ∧
    (after (exec .maj (stream 0x00100 0 0))).map (·.rsp) = some (some ⟨none, true, false⟩) ∧
    (after (exec .maj (stream 0 0x000400 0x000400))).map (·.rsp) = some (some ⟨none, true, true⟩) := by decide

/-- V-MAJ-1, V-MAJ-2. -/
theorem test_maj_faults :
    (after (exec .maj State.reset)).map (·.rsp) = some (some ⟨some .noEngine, false, false⟩) ∧
    (after (exec .maj keyed)).map (·.rsp) = some (some ⟨some .noStream, false, false⟩) := by decide

/-- V-STP-3. -/
theorem test_step_clocks :
    (after (exec .step fresh)).map (fun t => (t.working, t.rsp)) =
      some (⟨0x27B96, 0x095EDB, 0x0D92F7⟩, some ⟨none, true, false⟩) := by decide

/-- V-STP-1, V-STP-2. -/
theorem test_step_faults :
    (after (exec .step State.reset)).map (·.rsp) = some (some ⟨some .noEngine, false, false⟩) ∧
    (after (exec .step keyed)).map (·.rsp) = some (some ⟨some .noStream, false, false⟩) := by decide

/-- V-ENC-3, V-ENC-4. -/
theorem test_enc :
    (after (exec (.enc false) fresh)).map (fun t => (t.r1, t.rsp)) = some (0x27B96, some ⟨none, true, false⟩) ∧
    (after (exec (.enc true) fresh)).map (fun t => (t.r1, t.rsp)) = some (0x27B96, some ⟨none, true, true⟩) := by decide

/-- V-ENC-2. -/
theorem test_enc_noStream :
    (after (exec (.enc true) keyed)).map (fun t => (t.r1, t.rsp)) = some (0, some ⟨some .noStream, false, false⟩) := by
  decide

/-- V-DEC-1. -/
theorem test_dec :
    (after (exec (.dec true) fresh)).map (fun t => (t.working, t.rsp)) =
      some (⟨0x27B96, 0x095EDB, 0x0D92F7⟩, some ⟨none, true, true⟩) := by decide

/-! The ports. -/

/-- Rule R125: `rst` with a command presented in the same cycle: the engine is forgotten, the command is not executed. -/
theorem test_rst_precedence :
    (after (step { fresh with inputs := [⟨true, true, 0x60⟩] })).map (fun t => (t.kv, t.wv, t.kc, t.rsp)) =
      some (false, false, 0, none) := by decide

/-- P3: the illegal word 0x70 in mid-message. -/
theorem test_step_illegal :
    (after (step (presented 0x70))).map (fun t => (t.rspFlt, t.working)) =
      some (some 4, ⟨0x13DCB, 0x24AF6D, 0x0D92F7⟩) := by decide

theorem test_idle_cycle :
    (after (step { fresh with inputs := [⟨false, false, 0x60⟩] })).map (fun t => (t.r1, t.rspValid)) =
      some (0x13DCB, false) := by decide

/-- The first word after reset: 0x21 is KBIT 1. -/
theorem test_placed_word_runs :
    (after (step (State.reset.withFetchWord 8 0x21))).map (fun t => (t.kb, t.kc, t.inputs)) = some (1, 1, []) := by decide

theorem test_status : fresh.status = 0b000000011 ∧ (entered 37).status = 0b010010100 := by decide

/-- V-MIX-1's first three commands, P3's fault codes. -/
theorem test_runWords_mixed :
    (match runWords [0x60, 0x80, 0x90] fresh with
      | .next r => outputBits r.responses
      | .fault _ => []
      | .refused _ => []) = [false, true, true] := by decide

theorem test_faultCodes :
    faultCode none = 0 ∧ faultCode (some .invalidKeyLength) = 1 ∧ faultCode (some .noEngine) = 2 ∧
    faultCode (some .noStream) = 3 ∧ faultCode (some .illegalCommand) = 4 := by decide

/-! Witnesses: a state and operands for the hypotheses of each statement that has some. -/

/-- One illegal word of each group. -/
theorem witness_IllegalWordsAnswerIllegalCommand :
    (∃ why, decode 0x70 = .illegal why) ∧ (∃ why, decode 0x0E = .illegal why) ∧ (∃ why, decode 0x61 = .illegal why) :=
  ⟨⟨.reservedOpcode, by decide⟩, ⟨.reservedBits, by decide⟩, ⟨.operandInFormatZ, by decide⟩⟩

theorem witness_StepRunsThePresentedCommand :
    (presented 0x60).inputs = commandCycle 0x60 :: [] ∧ (commandCycle 0x60).rst = false ∧
    (commandCycle 0x60).cmdValid = true ∧ decode (commandCycle 0x60).cmd = .command .step := by decide

theorem witness_StepRefusesAnIllegalWord :
    (presented 0x70).inputs = commandCycle 0x70 :: [] ∧ (commandCycle 0x70).rst = false ∧
    (commandCycle 0x70).cmdValid = true ∧ legalWord (commandCycle 0x70).cmd = false := by decide

theorem witness_PlacedWordRunsNext : (0x91 : Nat) < 256 ∧ decodeTableWord 8 0x91 = some (.dec true) := by decide

theorem witness_StepTakesOneCycleOfThePins : (presented 0x60).inputs = commandCycle 0x60 :: [] := by decide

/-- `rst` with a command in the same cycle, and a KEND that loses the key. -/
theorem witness_HardwareResetForgetsTheEngine :
    (⟨true, true, 0x60⟩ : CycleIn).rst = true ∧
    cycle (commandCycle 0x30) fresh = .next (raise .invalidKeyLength (rejectKey fresh)) ∧ fresh.kv = true ∧
    (raise .invalidKeyLength (rejectKey fresh)).kv = false := ⟨rfl, rfl, rfl, rfl⟩

theorem witness_WaitingEngineHoldsItsState : fresh.inputs = [] := by decide

theorem witness_NopOnlyResponds_idle :
    (⟨false, false, 0⟩ : CycleIn).rst = false ∧ (⟨false, false, 0⟩ : CycleIn).cmdValid = false := by decide

/-- The two clauses of KBIT where they meet: 63 and 64. -/
theorem witness_KbitEntersTheNextKeyBit :
    (entered 63).kc.toNat < 64 ∧ 64 ≤ (entered 64).kc.toNat ∧ ¬ (entered 64).kc.toNat < 64 := by decide

/-- The two clauses of KEND: 64, and 63 and 65 beside it. -/
theorem witness_KendAcceptsExactly64Bits :
    (entered 64).kc.toNat = 64 ∧ (entered 63).kc.toNat ≠ 64 ∧ (entered 65).kc.toNat ≠ 64 := by decide

/-- The ends of the three parts of the key. -/
theorem witness_SplitCutsTheKeyInOrder : (18 : Nat) < 19 ∧ (21 : Nat) < 22 ∧ (22 : Nat) < 23 := by decide

theorem witness_ResetCopiesTheInitialState : State.reset.kv = false ∧ keyed.kv = true := by decide

theorem witness_MajAnswersTheVote :
    State.reset.kv = false ∧ (keyed.kv = true ∧ keyed.wv = false) ∧ (fresh.kv = true ∧ fresh.wv = true) := by decide

theorem witness_StepClocksOnceAndAnswersTheBit :
    State.reset.kv = false ∧ (keyed.kv = true ∧ keyed.wv = false) ∧ (fresh.kv = true ∧ fresh.wv = true) := by decide

theorem witness_EncCombinesThePlaintextBit :
    State.reset.kv = false ∧ (keyed.kv = true ∧ keyed.wv = false) ∧ (fresh.kv = true ∧ fresh.wv = true) := by decide

theorem witness_DecCombinesTheCiphertextBit :
    State.reset.kv = false ∧ (keyed.kv = true ∧ keyed.wv = false) ∧ (fresh.kv = true ∧ fresh.wv = true) := by decide

/-- Positions 0, 1 and 18 of a register of 19 bits; two registers that differ in the top bit only. -/
theorem witness_ShiftMovesTowardTheOutputEnd :
    (0 : Nat) < 19 ∧ (1 ≤ 1 ∧ 1 < 19) ∧ (1 ≤ 18 ∧ 18 < 19) ∧
    (∀ i, i + 1 < 4 → (0b1010 : BitVec 4).getLsbD i = (0b0010 : BitVec 4).getLsbD i) := by
  refine ⟨by decide, by decide, by decide, ?_⟩
  intro i hi
  have h : i < 3 := by omega
  interval_cases i <;> decide

theorem witness_OrderOfTheUpdatesDoesNotMatter : ([2, 0, 1] : List (Fin 3)).Perm [0, 1, 2] := by decide

theorem witness_ZeroRegisterStaysZero :
    (⟨0, 0x24AF6D, 0x0D92F7⟩ : Working).r1 = 0 ∧ (⟨0x13DCB, 0, 0x0D92F7⟩ : Working).r2 = 0 ∧
    (⟨0x13DCB, 0x24AF6D, 0⟩ : Working).r3 = 0 := by decide

/-- A next state of each command that writes something, so that every clause of the write set is met: KBIT below 64, KEND
at 64 and away from it, RESET, STEP. -/
theorem witness_EachElementHasItsWriters :
    exec (.kbit true) (entered 0) = .next (respondOk (enterKeyBit true (entered 0))) ∧
    exec .kend { entered 64 with kb := 1 } = .next (respondOk (acceptKey { entered 64 with kb := 1 })) ∧
    exec .kend fresh = .next (raise .invalidKeyLength (rejectKey fresh)) ∧
    exec .reset keyed = .next (respondOk (startStream keyed)) ∧
    exec .step fresh = .next (respondBit false (clockState fresh)) := ⟨rfl, rfl, rfl, rfl, rfl⟩

theorem witness_EachElementHasItsWriters_changes :
    (respondOk (enterKeyBit true (entered 0))).kb ≠ (entered 0).kb ∧
    (respondOk (enterKeyBit true (entered 0))).kc ≠ (entered 0).kc ∧
    (respondOk (acceptKey { entered 64 with kb := 1 })).initial ≠ (entered 64).initial ∧
    (respondOk (acceptKey { entered 64 with kb := 1 })).kv ≠ (entered 64).kv ∧
    (raise .invalidKeyLength (rejectKey fresh)).kv ≠ fresh.kv ∧
    (raise .invalidKeyLength (rejectKey fresh)).wv ≠ fresh.wv ∧
    (respondOk (startStream keyed)).wv ≠ keyed.wv ∧
    (respondBit false (clockState fresh)).working ≠ fresh.working := by decide

/-- A fault of each of the two clauses: NoStream, InvalidKeyLength. -/
theorem witness_FaultsLeaveTheStateAlone :
    (present 0x60 keyed = .next (raise .noStream keyed) ∧
      (raise .noStream keyed).rsp = some ⟨some .noStream, false, false⟩) ∧
    (present 0x30 fresh = .next (raise .invalidKeyLength (rejectKey fresh)) ∧
      (raise .invalidKeyLength (rejectKey fresh)).rsp = some ⟨some .invalidKeyLength, false, false⟩) :=
  ⟨⟨rfl, rfl⟩, rfl, rfl⟩

theorem witness_FaultPriorityFollowsTheMatrix : isIllegal 0xFF = true := by decide

/-- A word with an output bit, a word without one, a fault. -/
theorem witness_EveryWordGivesOneResponse :
    present 0x60 fresh = .next (respondBit false (clockState fresh)) ∧ present 0x00 fresh = .next (respondOk fresh) ∧
    present 0x70 fresh = .next (raise .illegalCommand fresh) := ⟨rfl, rfl, rfl⟩

theorem witness_RepetitionChangesNothing :
    idempotent .reset = true ∧ exec .reset keyed = .next (respondOk (startStream keyed)) := ⟨rfl, rfl⟩

theorem witness_SecondKendDestroysTheEngine :
    exec .kend (entered 64) = .next (respondOk (acceptKey (entered 64))) := rfl

theorem witness_RepeatedFaultIsTheSameFault :
    present 0x30 fresh = .next (raise .invalidKeyLength (rejectKey fresh)) ∧
    (raise .invalidKeyLength (rejectKey fresh)).rsp = some ⟨some .invalidKeyLength, false, false⟩ := ⟨rfl, rfl⟩

theorem witness_StreamCommandsShareOneClock : fresh.kv = true ∧ fresh.wv = true := by decide

/-- After success and after failure. -/
theorem witness_KendEndsTheMessage :
    exec .kend { fresh with kc := 64 } = .next (respondOk (acceptKey { fresh with kc := 64 })) ∧
    exec .kend fresh = .next (raise .invalidKeyLength (rejectKey fresh)) ∧ readsStream .step = true := ⟨rfl, rfl, rfl⟩

theorem witness_HarmlessCommandsDoNotDisturbTheStream :
    harmless (.kbit true) = true ∧ readsStream .step = true ∧
    exec (.kbit true) fresh = .next (respondOk (enterKeyBit true fresh)) ∧
    exec .step fresh = .next (respondBit false (clockState fresh)) ∧
    exec .step (respondOk (enterKeyBit true fresh)) =
      .next (respondBit false (clockState (respondOk (enterKeyBit true fresh)))) := ⟨rfl, rfl, rfl, rfl, rfl⟩

/-- A state of the invariant with a stream in progress, and its step. -/
theorem witness_stateInvariant : (presented 0x60).Inv where
  count := by decide
  streamNeedsEngine := fun _ => rfl
  streamFromKey := fun _ => ⟨0, rfl⟩
  response := fun r h => by cases h

theorem witness_EveryStepKeepsTheStateInvariant :
    (presented 0x60).Inv ∧ step (presented 0x60) = .next (respondBit false (clockState fresh)) :=
  ⟨witness_stateInvariant, rfl⟩

theorem witness_StatusViewShowsFlagsAndCount : (presented 0x60).Inv ∧ (presented 0x60).status.getLsbD 1 = true :=
  ⟨witness_stateInvariant, by decide⟩

/-- Two states that differ in stale contents and cannot be told apart. -/
theorem witness_UnspecifiedContentsCannotBeObserved :
    ({ entered 2 with kb := 0b101, r1 := 7 } : State).SameToHost { entered 2 with kb := 0b001, i3 := 9 } where
  kv := rfl
  wv := rfl
  kc := rfl
  entered := fun j hj => by
    have h : j < 2 := hj
    interval_cases j <;> decide
  key := fun h => by cases h
  stream := fun h => by cases h

theorem witness_NewLoadsAKeyOf64Bits : (List.replicate 64 true).length = 64 := by decide

theorem witness_NewRejectsEveryOtherLength :
    (List.replicate 63 true).length ≠ 64 ∧ (List.replicate 65 true).length ≠ 64 ∧ ([] : List Bit).length ≠ 64 := by decide

theorem witness_StepsAnswerTheKeystream : fresh.kv = true ∧ fresh.wv = true := by decide

theorem witness_MessagesAreCombinedWithTheKeystream : keyed.kv = true ∧ State.reset.kv = false := by decide

theorem witness_DecryptUndoesEncrypt :
    keyed.kv = true ∧ fresh.kv = true ∧ keyed.initial = fresh.initial := by decide

theorem witness_PortCyclesRunTheWordsInOrder :
    (presented 0x60).inputs = [(0x60 : CmdWord)].map commandCycle ++ [] := by decide

end Sys2Proof.Tests
end

/-! The status view (rule R18): what each of its bits reads, and the facts a host may rely on when it reads it. -/

namespace Sys2Proof.Machine

theorem State.status_getLsbD (s : State) (i : Nat) :
    s.status.getLsbD i = if i < 1 then s.kv else if i - 1 < 1 then s.wv else s.kc.getLsbD (i - 1 - 1) := by
  have outer : s.status.getLsbD i = if i < 1 then (BitVec.ofBool s.kv).getLsbD i
      else (s.kc ++ BitVec.ofBool s.wv).getLsbD (i - 1) := BitVec.getLsbD_append
  rw [outer, BitVec.getLsbD_append]
  split
  case isTrue h => simp [Nat.lt_one_iff.mp h]
  case isFalse =>
    split
    case isTrue h => simp [Nat.lt_one_iff.mp h]
    case isFalse => rfl

theorem State.status_getLsbD_zero (s : State) : s.status.getLsbD 0 = s.kv := s.status_getLsbD 0

theorem State.status_getLsbD_one (s : State) : s.status.getLsbD 1 = s.wv := s.status_getLsbD 1

@[simp] theorem State.status_count (s : State) : s.status.extractLsb' 2 7 = s.kc := by
  refine BitVec.eq_of_getLsbD_eq fun i hi => ?_
  have aboveFlags : ¬ 2 + i < 1 ∧ ¬ 2 + i - 1 < 1 ∧ 2 + i - 1 - 1 = i := by omega
  rw [BitVec.getLsbD_extractLsb', s.status_getLsbD]
  simp only [hi, aboveFlags, decide_true, Bool.true_and, if_false]

/-- The view shows nothing of what hardware reset leaves unspecified (rules R18, R125). -/
@[simp] theorem hardwareReset_status (s : State) : (hardwareReset s).status = 0 := by
  rw [State.status, hardwareReset_kc, hardwareReset_wv, hardwareReset_kv]
  decide

/-- Settles O46: each field is read off the view, and the invariant of the states bounds what is read. -/
theorem statusViewShowsFlagsAndCount : Obligations.StatusViewShowsFlagsAndCount := by
  refine ⟨fun s => ⟨s.status_getLsbD_zero, s.status_getLsbD_one, s.status_count⟩, fun s inv => ?_,
    hardwareReset_status⟩
  rw [s.status_count, s.status_getLsbD_one, s.status_getLsbD_zero]
  exact ⟨inv.count, inv.streamNeedsEngine⟩

end Sys2Proof.Machine

/-! The decoder read backwards (rules R48 to R50): from the fields of a word, from the words of the commands, and from the
masks of the opcode table, to what the word decodes to. -/

namespace Sys2Proof

/-- The three fields of rule R45 make up the whole word. -/
theorem word_ext_of_fields {w v : CmdWord} (op : opField w = opField v) (zero : zeroField w = zeroField v)
    (d : dField w = dField v) : w = v := by
  refine BitVec.eq_of_getLsbD_eq fun i hi => ?_
  obtain rfl | ⟨low, high⟩ | high : i = 0 ∨ (1 ≤ i ∧ i - 1 < 3) ∨ 4 ≤ i := by omega
  · exact d
  · simpa [zeroField, BitVec.getLsbD_extractLsb', high, Nat.add_sub_cancel' low]
      using congrArg (BitVec.getLsbD · (i - 1)) zero
  · have inOp : i - 4 < 4 := by omega
    simpa [opField, BitVec.getLsbD_extractLsb', inOp, Nat.add_sub_cancel' high]
      using congrArg (BitVec.getLsbD · (i - 4)) op

@[simp] theorem opField_encode (i : Instr) : opField (encode i) = i.opcode := by
  cases i with
  | kbit d | enc d | dec d => cases d <;> rfl
  | nop | kclr | kend | reset | maj | step => rfl

@[simp] theorem zeroField_encode (i : Instr) : zeroField (encode i) = 0 := by
  cases i with
  | kbit d | enc d | dec d => cases d <;> rfl
  | nop | kclr | kend | reset | maj | step => rfl

/-- Every command's own word is legal, in its row and carries its operand. -/
theorem Laws.EncodingLegal.all : ∀ i : Instr, Laws.EncodingLegal.Statement i
  | .nop => nop
  | .kclr => kclr
  | .kbit d => kbit d
  | .kend => kend
  | .reset => reset
  | .maj => maj
  | .step => step
  | .enc d => enc d
  | .dec d => dec d

@[simp] theorem dField_encode (i : Instr) : dField (encode i) = i.operand :=
  let ⟨_, _, operand⟩ := Laws.EncodingLegal.all i
  operand

@[simp] theorem encode_and_mask (i : Instr) : encode i &&& i.format.mask = i.matchBits :=
  let ⟨_, row, _⟩ := Laws.EncodingLegal.all i
  row

theorem encode_eq_iff_fields (i : Instr) (w : CmdWord) :
    encode i = w ↔ zeroField w = 0 ∧ i.opcode = opField w ∧ i.operand = dField w := by
  constructor
  · rintro rfl
    simp
  · rintro ⟨zero, op, d⟩
    exact word_ext_of_fields (by simp [op]) (by simp [zero]) (by simp [d])

/-! What the opcode and the operand bit select. -/

/-- The opcodes that rule R48 leaves reserved. -/
def reservedOpcodes : List (BitVec 4) := [0b0111, 0b1010, 0b1011, 0b1100, 0b1101, 0b1110, 0b1111]

/-- The opcodes of the commands without an operand (rules R46, R48). -/
def formatZOpcodes : List (BitVec 4) := [0b0000, 0b0001, 0b0011, 0b0100, 0b0101, 0b0110]

theorem decodeOp_eq_command_iff (i : Instr) :
    ∀ (op : BitVec 4) (d : Bit), decodeOp op d = .command i ↔ i.opcode = op ∧ i.operand = d := by
  cases i with
  | kbit e | enc e | dec e => cases e <;> decide
  | nop | kclr | kend | reset | maj | step => decide

theorem decodeOp_eq_reservedOpcode_iff :
    ∀ (op : BitVec 4) (d : Bit), decodeOp op d = .illegal .reservedOpcode ↔ op ∈ reservedOpcodes := by decide

theorem decodeOp_eq_operandInFormatZ_iff :
    ∀ (op : BitVec 4) (d : Bit), decodeOp op d = .illegal .operandInFormatZ ↔ op ∈ formatZOpcodes ∧ d = true := by decide

theorem decodeOp_ne_reservedBits :
    ∀ (op : BitVec 4) (d : Bit), decodeOp op d ≠ .illegal .reservedBits := by decide

theorem decodeOp_illegal_iff (op : BitVec 4) (d : Bit) :
    (∃ why, decodeOp op d = .illegal why) ↔ op ∈ reservedOpcodes ∨ (op ∈ formatZOpcodes ∧ d = true) := by
  constructor
  · rintro ⟨why, h⟩
    cases why with
    | reservedBits => exact absurd h (decodeOp_ne_reservedBits op d)
    | reservedOpcode => exact .inl ((decodeOp_eq_reservedOpcode_iff op d).mp h)
    | operandInFormatZ => exact .inr ((decodeOp_eq_operandInFormatZ_iff op d).mp h)
  · rintro (reserved | operand)
    · exact ⟨_, (decodeOp_eq_reservedOpcode_iff op d).mpr reserved⟩
    · exact ⟨_, (decodeOp_eq_operandInFormatZ_iff op d).mpr operand⟩

/-! What a word decodes to. -/

theorem decode_of_zeroField {w : CmdWord} (h : zeroField w = 0) : decode w = decodeOp (opField w) (dField w) := if_pos h

theorem decode_of_reservedBits {w : CmdWord} (h : zeroField w ≠ 0) : decode w = .illegal .reservedBits := if_neg h

/-- No word but its own decodes to a command (rules R48, R49). -/
theorem decode_eq_command_iff_encode (w : CmdWord) (i : Instr) : decode w = .command i ↔ encode i = w := by
  rw [encode_eq_iff_fields]
  by_cases zero : zeroField w = 0
  · rw [decode_of_zeroField zero, decodeOp_eq_command_iff, and_iff_right zero]
  · simp only [decode_of_reservedBits zero, zero, false_and, reduceCtorEq]

/-- The two formats' masks leave out at most `W[0]`, so the masked bits and the operand determine the word. -/
theorem word_ext_of_mask (f : Format) {w v : CmdWord} (masked : w &&& f.mask = v &&& f.mask)
    (d : dField w = dField v) : w = v := by
  refine BitVec.eq_of_getLsbD_eq fun i hi => ?_
  have bit := congrArg (BitVec.getLsbD · i) masked
  simp only [BitVec.getLsbD_and] at bit
  by_cases h : i = 0
  · rw [h]
    exact d
  · have kept : ∀ i < 8, i ≠ 0 → f.mask.getLsbD i = true := by cases f <;> decide
    simpa [kept i hi h] using bit

/-- Rule R48 for every row at once: the masked bits are the row's and the operand is `W[0]`. -/
theorem decode_eq_command_iff_row (w : CmdWord) (i : Instr) :
    decode w = .command i ↔ w &&& i.format.mask = i.matchBits ∧ i.operand = dField w := by
  rw [decode_eq_command_iff_encode]
  constructor
  · rintro rfl
    simp
  · rintro ⟨row, d⟩
    exact word_ext_of_mask i.format (by simp [row]) (by simp [d])

/-- A row of format Z masks the whole word, so its match value fixes `W[0]` as well. -/
theorem decode_eq_command_iff_of_formatZ (w : CmdWord) {i : Instr} (h : i.format = .z) :
    decode w = .command i ↔ w &&& Format.z.mask = i.matchBits := by
  rw [decode_eq_command_iff_row, h, and_iff_left_iff_imp]
  intro row
  have whole (x : CmdWord) : x &&& Format.z.mask = x := BitVec.and_allOnes
  have word : encode i = w := by rw [← whole w, row, ← encode_and_mask, h, whole]
  rw [← word, dField_encode]

theorem matchBits_kbit (d : Bit) : (Instr.kbit d).matchBits = 0x20 := by cases d <;> rfl

theorem matchBits_enc (d : Bit) : (Instr.enc d).matchBits = 0x80 := by cases d <;> rfl

theorem matchBits_dec (d : Bit) : (Instr.dec d).matchBits = 0x90 := by cases d <;> rfl

/-- Every command with every operand. -/
def allCommands : List Instr :=
  [.nop, .kclr, .kbit false, .kbit true, .kend, .reset, .maj, .step, .enc false, .enc true, .dec false, .dec true]

theorem mem_allCommands (i : Instr) : i ∈ allCommands := by
  cases i with
  | kbit d | enc d | dec d => cases d <;> decide
  | nop | kclr | kend | reset | maj | step => decide

theorem decodes_iff_mem_words (w : CmdWord) : (∃ i, decode w = .command i) ↔ w ∈ allCommands.map encode := by
  simp [decode_eq_command_iff_encode, mem_allCommands]

/-- The three groups of rule R50. -/
theorem decode_illegal_iff (w : CmdWord) :
    (∃ why, decode w = .illegal why) ↔
      opField w ∈ reservedOpcodes ∨ zeroField w ≠ 0 ∨ (opField w ∈ formatZOpcodes ∧ dField w = true) := by
  by_cases zero : zeroField w = 0
  · rw [decode_of_zeroField zero, decodeOp_illegal_iff, or_iff_right (not_not_intro zero)]
  · exact iff_of_true ⟨_, decode_of_reservedBits zero⟩ (.inr (.inl zero))

/-- Settles O2: each row is read off the masked bits, and the legal words are the words of the commands. -/
theorem wordSelectsCommandByMatchAndMask : Obligations.WordSelectsCommandByMatchAndMask := fun w =>
  have rowZ {i : Instr} (h : i.format = .z) := decode_eq_command_iff_of_formatZ w h
  have rowD (i : Instr) := decode_eq_command_iff_row w i
  ⟨rowZ rfl, rowZ rfl, fun d => matchBits_kbit d ▸ rowD (.kbit d), rowZ rfl, rowZ rfl, rowZ rfl, rowZ rfl,
    fun d => matchBits_enc d ▸ rowD (.enc d), fun d => matchBits_dec d ▸ rowD (.dec d), decodes_iff_mem_words w⟩

end Sys2Proof

namespace Sys2Proof.Machine

theorem raise_eq (f : FaultCause) (s : State) : raise f s = { s with rsp := some ⟨some f, false, false⟩ } := rfl

/-- All 256 words but the 12 of `allCommands`; the words are counted, each by running the decoder. -/
theorem countP_isIllegal : (List.range 256).countP (fun n => isIllegal (BitVec.ofNat 8 n)) = 244 := by decide +kernel

/-- Settles O3: the groups are those the decoder refuses, and the word alone decides the response. -/
theorem illegalWordsAnswerIllegalCommand : Obligations.IllegalWordsAnswerIllegalCommand := by
  refine ⟨fun w => ⟨decode_illegal_iff w, ?_⟩, countP_isIllegal⟩
  rintro ⟨why, illegal⟩ s
  rw [present_of_illegal illegal, raise_eq]

end Sys2Proof.Machine

/-! The key-load commands (rules R60 to R64): the next state of each, field by field. -/

namespace Sys2Proof.Machine

theorem respondOk_eq (s : State) : respondOk s = { s with rsp := some ⟨none, false, false⟩ } := rfl

theorem idle_eq (s : State) : idle s = { s with rsp := none } := rfl

theorem cycle_of_noCommand {c : CycleIn} (noReset : c.rst = false) (noCommand : c.cmdValid = false) (s : State) :
    cycle c s = .next (idle s) := by
  rw [cycle, noReset, noCommand]
  rfl

/-- Settles O11: NOP writes the response port alone, and an idle cycle clears it. -/
theorem nopOnlyResponds : Obligations.NopOnlyResponds := by
  refine ⟨rfl, fun s => ?_, fun c s noReset noCommand => ?_⟩
  · rw [exec_nop, respondOk_eq]
  · rw [cycle_of_noCommand noReset noCommand, idle_eq]

/-- Settles O12: KCLR is the one write of KC before the response. -/
theorem kclrRestartsKeyEntry : Obligations.KclrRestartsKeyEntry := by
  refine ⟨rfl, fun s => ?_⟩
  rw [exec_kclr, respondOk_eq, State.setCount]

/-! KBIT (rule R62): the two branches of entering a key bit, and the buffer after the first. -/

theorem encode_kbit (d : Bit) : encode (.kbit d) = if d then 0x21 else 0x20 := by cases d <;> rfl

theorem enterKeyBit_of_lt {s : State} (room : s.kc.toNat < 64) (d : Bit) :
    enterKeyBit d s = (s.setBuffer (writeBit s.kb s.kc.toNat d)).setCount (s.kc + 1) := if_pos room

theorem enterKeyBit_of_ge {s : State} (full : 64 ≤ s.kc.toNat) (d : Bit) : enterKeyBit d s = s.setCount 65 :=
  if_neg (Nat.not_lt.mpr full)

theorem exec_kbit_of_lt {s : State} (room : s.kc.toNat < 64) (d : Bit) :
    exec (.kbit d) s = .next { s with kb := writeBit s.kb s.kc.toNat d, kc := s.kc + 1,
                                      rsp := some ⟨none, false, false⟩ } := by
  rw [exec_kbit, enterKeyBit_of_lt room, respondOk_eq, State.setBuffer, State.setCount]

theorem exec_kbit_of_ge {s : State} (full : 64 ≤ s.kc.toNat) (d : Bit) :
    exec (.kbit d) s = .next { s with kc := 65, rsp := some ⟨none, false, false⟩ } := by
  rw [exec_kbit, enterKeyBit_of_ge full, respondOk_eq, State.setCount]

@[simp] theorem getLsbD_writeBit_same {n i : Nat} (inside : i < n) (x : BitVec n) (d : Bit) :
    (writeBit x i d).getLsbD i = d := by
  rw [getLsbD_writeBit x i i d inside, if_pos rfl]

theorem getLsbD_writeBit_other {n i j : Nat} (inside : i < n) (other : j ≠ i) (x : BitVec n) (d : Bit) :
    (writeBit x i d).getLsbD j = x.getLsbD j := by
  rw [getLsbD_writeBit x i j d inside, if_neg other]

/-- Settles O13: below 64 the new buffer is `writeBit` at the count, read back at that position and at the others; from 64
on only the count is written. -/
theorem kbitEntersTheNextKeyBit : Obligations.KbitEntersTheNextKeyBit := by
  refine ⟨encode_kbit, fun d s room => ?_, fun d s full => exec_kbit_of_ge full d⟩
  exact ⟨writeBit s.kb s.kc.toNat d, exec_kbit_of_lt room d, getLsbD_writeBit_same room s.kb d,
    fun j other => getLsbD_writeBit_other room other s.kb d⟩

/-! KEND (rule R63) and the key split (rule R64). -/

theorem exec_kend_of_eq {s : State} (exact64 : s.kc.toNat = 64) :
    exec .kend s = .next (respondOk (acceptKey s)) := by
  rw [exec_kend, if_pos exact64]

theorem exec_kend_of_ne {s : State} (wrong : s.kc.toNat ≠ 64) :
    exec .kend s = .next (raise .invalidKeyLength (rejectKey s)) := by
  rw [exec_kend, if_neg wrong]

/-- Settles O14: the count alone decides between accepting the key and rejecting it. -/
theorem kendAcceptsExactly64Bits : Obligations.KendAcceptsExactly64Bits := by
  refine ⟨rfl, fun s exact64 => ?_, fun s wrong => ?_⟩
  · rw [exec_kend_of_eq exact64, respondOk_eq, acceptKey_eq]
  · rw [exec_kend_of_ne wrong, raise_eq, rejectKey_eq]

/-- The three parts are adjacent slices that together span the key. -/
theorem split_append (k : KeyBits) : ((split k).r3 ++ (split k).r2 ++ (split k).r1 : BitVec 64) = k := by
  have upper : (k.extractLsb' 41 23 ++ k.extractLsb' 19 22 : BitVec 45) = k.extractLsb' 19 45 :=
    BitVec.extractLsb'_append_extractLsb'_eq_extractLsb' rfl
  have whole : (k.extractLsb' 19 45 ++ k.extractLsb' 0 19 : BitVec 64) = k.extractLsb' 0 64 :=
    BitVec.extractLsb'_append_extractLsb'_eq_extractLsb' rfl
  calc ((split k).r3 ++ (split k).r2 ++ (split k).r1 : BitVec 64)
      = k.extractLsb' 19 45 ++ k.extractLsb' 0 19 := congrArg (· ++ k.extractLsb' 0 19) upper
    _ = k.extractLsb' 0 64 := whole
    _ = k := BitVec.extractLsb'_eq_self

/-- Settles O15: `split_positions` within each part's length, and the parts side by side. -/
theorem splitCutsTheKeyInOrder : Obligations.SplitCutsTheKeyInOrder := by
  intro k
  refine ⟨fun j inPart => ?_, fun j inPart => ?_, fun j inPart => ?_, split_append k⟩
  · obtain ⟨part1, _, _⟩ := split_positions k j
    rw [part1, decide_eq_true inPart, Bool.true_and]
  · obtain ⟨_, part2, _⟩ := split_positions k j
    rw [part2, decide_eq_true inPart, Bool.true_and]
  · obtain ⟨_, _, part3⟩ := split_positions k j
    rw [part3, decide_eq_true inPart, Bool.true_and]

end Sys2Proof.Machine

/-! RESET and MAJ (rules R70 to R72, R74): the answer of each under every setting of the flags, and the majority itself. -/

namespace Sys2Proof.Machine

theorem respondBit_eq (b : Bit) (s : State) : respondBit b s = { s with rsp := some ⟨none, true, b⟩ } := rfl

theorem exec_reset_of_noKey {s : State} (noKey : s.kv = false) :
    exec .reset s = .next (raise .noEngine s) := needEngine_of_noKey noKey _

theorem exec_reset_of_key {s : State} (key : s.kv = true) :
    exec .reset s = .next (respondOk (startStream s)) := needEngine_of_key key _

/-- Settles O16: KV alone decides between NoEngine and the start of a stream. -/
theorem resetCopiesTheInitialState : Obligations.ResetCopiesTheInitialState := by
  refine ⟨rfl, fun s noKey => ?_, fun s key => ?_⟩
  · rw [exec_reset_of_noKey noKey, raise_eq]
  · rw [exec_reset_of_key key, respondOk_eq, startStream_eq]

theorem vote_working (s : State) :
    vote s.working = maj (s.r1.getLsbD 8) (s.r2.getLsbD 10) (s.r3.getLsbD 10) := rfl

theorem exec_maj_of_noKey {s : State} (noKey : s.kv = false) :
    exec .maj s = .next (raise .noEngine s) := needStream_of_noKey noKey _

theorem exec_maj_of_noStream {s : State} (key : s.kv = true) (noStream : s.wv = false) :
    exec .maj s = .next (raise .noStream s) := needStream_of_noStream key noStream _

theorem exec_maj_of_stream {s : State} (key : s.kv = true) (stream : s.wv = true) :
    exec .maj s = .next (respondBit (vote s.working) s) := needStream_of_stream key stream _

/-- Settles O17: KV is tested before WV, and with both set the vote is taken at the clocking positions. -/
theorem majAnswersTheVote : Obligations.MajAnswersTheVote := by
  refine ⟨rfl, fun s noKey => ?_, fun s key noStream => ?_, fun s key stream => ?_⟩
  · rw [exec_maj_of_noKey noKey, raise_eq]
  · rw [exec_maj_of_noStream key noStream, raise_eq]
  · rw [exec_maj_of_stream key stream, respondBit_eq, vote_working]

/-! The majority (rule R71). -/

theorem maj_eq (a b c : Bit) : maj a b c = ((a && b) || (a && c) || (b && c)) := rfl

theorem maj_eq_true_iff : ∀ a b c : Bit, maj a b c = true ↔ 2 ≤ a.toNat + b.toNat + c.toNat := by decide

theorem maj_swap_first (a b c : Bit) : maj a b c = maj b a c := by
  rw [maj_eq, maj_eq, Bool.and_comm b a, Bool.or_right_comm]

theorem maj_swap_last (a b c : Bit) : maj a b c = maj a c b := by
  rw [maj_eq, maj_eq, Bool.and_comm c b, Bool.or_comm (a && c)]

/-- Two equal bits outvote the third. -/
@[simp] theorem maj_self_left (a c : Bit) : maj a a c = a := by
  cases a <;> rfl

/-- Among three bits two are equal, and the majority equals both. -/
theorem maj_eq_two_of_three (a b c : Bit) :
    (maj a b c = a ∧ maj a b c = b) ∨ (maj a b c = a ∧ maj a b c = c) ∨ (maj a b c = b ∧ maj a b c = c) := by
  by_cases first : a = b
  · subst first
    exact .inl ⟨maj_self_left a c, maj_self_left a c⟩
  by_cases outer : a = c
  · subst outer
    have vote : maj a b a = a := by rw [maj_swap_last, maj_self_left]
    exact .inr (.inl ⟨vote, vote⟩)
  have last : b = c :=
    (Bool.eq_not_of_ne (Ne.symm first)).trans (Bool.eq_not_of_ne (Ne.symm outer)).symm
  subst last
  have vote : maj a b b = b := by rw [maj_swap_first, maj_swap_last, maj_self_left]
  exact .inr (.inr ⟨vote, vote⟩)

/-- Settles O21: the formula, the count, the two swaps that generate every order of the bits, and the two equal bits. -/
theorem majorityIsAtLeastTwoOfThree : Obligations.MajorityIsAtLeastTwoOfThree := fun a b c =>
  ⟨maj_eq a b c, maj_eq_true_iff a b c, maj_swap_first a b c, maj_swap_last a b c, maj_eq_two_of_three a b c⟩

end Sys2Proof.Machine

/-! The feedback and the shift of one register (rules R82 to R84). -/

namespace Sys2Proof.Machine

/-- The first tap starts the exclusive-or, so the fold's initial 0 disappears. -/
theorem feedback_cons {n : Nat} (i : Nat) (taps : List Nat) (x : BitVec n) :
    feedback (i :: taps) x = taps.foldl (fun acc j => acc ^^ x.getLsbD j) (x.getLsbD i) := by
  rw [feedback, List.foldl_cons, Bool.false_xor]

theorem feedback_taps1 (x : Reg1) :
    feedback taps1 x = (x.getLsbD 13 ^^ x.getLsbD 16 ^^ x.getLsbD 17 ^^ x.getLsbD 18) := feedback_cons 13 _ x

theorem feedback_taps2 (x : Reg2) : feedback taps2 x = (x.getLsbD 20 ^^ x.getLsbD 21) := feedback_cons 20 _ x

theorem feedback_taps3 (x : Reg3) :
    feedback taps3 x = (x.getLsbD 7 ^^ x.getLsbD 20 ^^ x.getLsbD 21 ^^ x.getLsbD 22) := feedback_cons 7 _ x

/-- Settles O22: the fold over each tap list, written out, and the lists themselves. -/
theorem feedbackIsTheXorOfTheTaps : Obligations.FeedbackIsTheXorOfTheTaps :=
  ⟨feedback_taps1, feedback_taps2, feedback_taps3, by decide, by decide, by decide⟩

theorem getLsbD_shiftIn_zero {n : Nat} (nonempty : 0 < n) (x : BitVec n) (f : Bit) : (shiftIn x f).getLsbD 0 = f := by
  rw [getLsbD_shiftIn x f 0 nonempty, if_pos rfl]

theorem getLsbD_shiftIn_succ {n i : Nat} (inside : i + 1 < n) (x : BitVec n) (f : Bit) :
    (shiftIn x f).getLsbD (i + 1) = x.getLsbD i := by
  rw [getLsbD_shiftIn x f (i + 1) inside, if_neg i.succ_ne_zero, Nat.add_sub_cancel]

/-- The top bit has no position to move to, so the shift does not depend on it. -/
theorem shiftIn_congr_below_top {n : Nat} {x y : BitVec n} (f : Bit)
    (below : ∀ i, i + 1 < n → x.getLsbD i = y.getLsbD i) : shiftIn x f = shiftIn y f := by
  refine BitVec.eq_of_getLsbD_eq fun i inside => ?_
  cases i with
  | zero => rw [getLsbD_shiftIn_zero inside, getLsbD_shiftIn_zero inside]
  | succ i => rw [getLsbD_shiftIn_succ inside, getLsbD_shiftIn_succ inside, below i inside]

theorem toNat_shiftIn {n : Nat} (x : BitVec n) (f : Bit) :
    (shiftIn x f).toNat = ((x.toNat <<< 1) ||| f.toNat) % 2 ^ n := by
  rw [shiftIn, BitVec.toNat_or, BitVec.toNat_shiftLeft, BitVec.toNat_setWidth, BitVec.toNat_ofBool, Nat.or_mod_two_pow]

/-- Settles O23: the two kinds of position, the discarded top bit, and the number. -/
theorem shiftMovesTowardTheOutputEnd : Obligations.ShiftMovesTowardTheOutputEnd := by
  refine fun n x f => ⟨fun nonempty => getLsbD_shiftIn_zero nonempty x f, fun i low inside => ?_,
    fun y => shiftIn_congr_below_top f, toNat_shiftIn x f⟩
  obtain ⟨i, rfl⟩ := Nat.exists_eq_add_of_le' low
  exact getLsbD_shiftIn_succ inside x f

/-- The shift as rule R86 writes it: all positions but the top one, with the new bit below them. -/
theorem shiftIn_eq_append {n : Nat} (x : BitVec (n + 1)) (f : Bit) :
    shiftIn x f = x.extractLsb' 0 n ++ BitVec.ofBool f := by
  refine BitVec.eq_of_getLsbD_eq fun i inside => ?_
  rw [BitVec.getLsbD_append]
  cases i with
  | zero =>
    rw [getLsbD_shiftIn_zero inside]
    simp
  | succ i =>
    have kept : i < n := Nat.lt_of_succ_lt_succ inside
    rw [getLsbD_shiftIn_succ inside, if_neg (by omega), Nat.add_sub_cancel, BitVec.getLsbD_extractLsb', Nat.zero_add,
      decide_eq_true kept, Bool.true_and]

theorem clockRegister_eq_append {n : Nat} (clk : Nat) (taps : List Nat) (m : Bit) (x : BitVec (n + 1)) :
    clockRegister clk taps m x =
      if x.getLsbD clk = m then x.extractLsb' 0 n ++ BitVec.ofBool (feedback taps x) else x := by
  rw [clockRegister, shiftIn_eq_append]

/-- Above position 0 a clocked register shows the bit that stood one below (rule R85). -/
theorem getLsbD_clockRegister_succ {n i : Nat} (inside : i + 1 < n) (clk : Nat) (taps : List Nat) (m : Bit)
    (x : BitVec n) :
    (clockRegister clk taps m x).getLsbD (i + 1) = if x.getLsbD clk = m then x.getLsbD i else x.getLsbD (i + 1) := by
  by_cases agrees : x.getLsbD clk = m
  · rw [clockRegister_of_agrees agrees, getLsbD_shiftIn_succ inside, if_pos agrees]
  · rw [clockRegister_of_differs agrees, if_neg agrees]

end Sys2Proof.Machine

/-! The clock of the three registers, its output bit, and the command STEP (rules R85 to R87). -/

namespace Sys2Proof.Machine

theorem clock_eq (w : Working) : clock w = (advance w, outputBit (advance w)) := rfl

theorem advance_eq (w : Working) :
    advance w = ⟨clockRegister clk1 taps1 (vote w) w.r1, clockRegister clk2 taps2 (vote w) w.r2,
      clockRegister clk3 taps3 (vote w) w.r3⟩ := rfl

theorem outputBit_eq (w : Working) : outputBit w = (w.r1.getLsbD 18 ^^ w.r2.getLsbD 21 ^^ w.r3.getLsbD 22) := rfl

theorem vote_eq (w : Working) :
    vote w = ((w.r1.getLsbD 8 && w.r2.getLsbD 10) || (w.r1.getLsbD 8 && w.r3.getLsbD 10) ||
      (w.r2.getLsbD 10 && w.r3.getLsbD 10)) := rfl

/-- Settles O24: each register's line is its gated shift with the feedback written out, and the output bit is read off the
three new registers. -/
theorem clockFollowsTheSpecFormula : Obligations.ClockFollowsTheSpecFormula := by
  intro r1 r2 r3 c1 c2 c3 m f1 f2 f3 r1' r2' r3'
  have line1 : clockRegister clk1 taps1 m r1 = r1' := by rw [clockRegister_eq_append, feedback_taps1]; rfl
  have line2 : clockRegister clk2 taps2 m r2 = r2' := by rw [clockRegister_eq_append, feedback_taps2]; rfl
  have line3 : clockRegister clk3 taps3 m r3 = r3' := by rw [clockRegister_eq_append, feedback_taps3]; rfl
  have registers : advance ⟨r1, r2, r3⟩ = ⟨r1', r2', r3'⟩ := by
    rw [advance_eq, vote_eq, line1, line2, line3]
  rw [clock_eq, registers, outputBit_eq]

/-- The output bit in terms of the registers before the cycle (rule R85). -/
theorem outputBit_advance (w : Working) :
    outputBit (advance w) =
      ((if w.r1.getLsbD 8 = vote w then w.r1.getLsbD 17 else w.r1.getLsbD 18) ^^
       (if w.r2.getLsbD 10 = vote w then w.r2.getLsbD 20 else w.r2.getLsbD 21) ^^
       (if w.r3.getLsbD 10 = vote w then w.r3.getLsbD 21 else w.r3.getLsbD 22)) := by
  have top1 : (advance w).r1.getLsbD 18 = _ := getLsbD_clockRegister_succ (by decide) clk1 taps1 (vote w) w.r1
  have top2 : (advance w).r2.getLsbD 21 = _ := getLsbD_clockRegister_succ (by decide) clk2 taps2 (vote w) w.r2
  have top3 : (advance w).r3.getLsbD 22 = _ := getLsbD_clockRegister_succ (by decide) clk3 taps3 (vote w) w.r3
  rw [outputBit_eq, top1, top2, top3, clk1, clk2, clk3]

/-- Settles O25: the output bit is read off the new registers, and each new top bit is traced back to the old register. -/
theorem outputBitIsTakenAfterTheShifts : Obligations.OutputBitIsTakenAfterTheShifts := by
  refine fun w => ⟨?_, ?_⟩
  · rw [clock_snd, clock_fst, outputBit_eq]
  · rw [clock_snd, outputBit_advance]

theorem streamBit_eq (s : State) : streamBit s = (clock ⟨s.r1, s.r2, s.r3⟩).2 := rfl

/-- The next state of a stream command that answers the bit `b`. -/
theorem respondBit_clockState_eq (b : Bit) (s : State) :
    respondBit b (clockState s) =
      { s with r1 := (clock ⟨s.r1, s.r2, s.r3⟩).1.r1, r2 := (clock ⟨s.r1, s.r2, s.r3⟩).1.r2,
               r3 := (clock ⟨s.r1, s.r2, s.r3⟩).1.r3, rsp := some ⟨none, true, b⟩ } := rfl

theorem exec_step_of_noKey {s : State} (noKey : s.kv = false) :
    exec .step s = .next (raise .noEngine s) := needStream_of_noKey noKey _

theorem exec_step_of_noStream {s : State} (key : s.kv = true) (noStream : s.wv = false) :
    exec .step s = .next (raise .noStream s) := needStream_of_noStream key noStream _

theorem exec_step_of_stream {s : State} (key : s.kv = true) (stream : s.wv = true) :
    exec .step s = .next (respondBit (streamBit s) (clockState s)) := needStream_of_stream key stream _

/-- Settles O18: KV is tested before WV, and with both set only the working registers and the response port are written. -/
theorem stepClocksOnceAndAnswersTheBit : Obligations.StepClocksOnceAndAnswersTheBit := by
  refine ⟨rfl, fun s noKey => ?_, fun s key noStream => ?_, fun s key stream => ?_⟩
  · rw [exec_step_of_noKey noKey, raise_eq]
  · rw [exec_step_of_noStream key noStream, raise_eq]
  · rw [exec_step_of_stream key stream, respondBit_clockState_eq, streamBit_eq]

end Sys2Proof.Machine

/-! The combiner and its commands ENC and DEC (rules R95 to R97). DEC is ENC in every state, so each fact about the next
state is proved of ENC and carried over. -/

namespace Sys2Proof.Machine

theorem combine_eq (d z : Bit) : combine d z = (d ^^ z) := rfl

@[simp] theorem combine_combine (d z : Bit) : combine (combine d z) z = d := by
  rw [combine_eq, combine_eq, Bool.xor_assoc, Bool.xor_self, Bool.xor_false]

/-- Settles O40: the combiner is the exclusive-or, and the two equal keystream bits cancel. -/
theorem combinerIsItsOwnInverse : Obligations.CombinerIsItsOwnInverse := fun d z =>
  ⟨combine_eq d z, combine_combine d z⟩

theorem encode_enc (d : Bit) : encode (.enc d) = if d then 0x81 else 0x80 := by cases d <;> rfl

theorem encode_dec (d : Bit) : encode (.dec d) = if d then 0x91 else 0x90 := by cases d <;> rfl

theorem exec_dec_eq_exec_enc (d : Bit) (s : State) : exec (.dec d) s = exec (.enc d) s := by
  rw [exec_dec, exec_enc]

theorem exec_enc_of_noKey {s : State} (noKey : s.kv = false) (d : Bit) :
    exec (.enc d) s = .next (raise .noEngine s) := needStream_of_noKey noKey _

theorem exec_enc_of_noStream {s : State} (key : s.kv = true) (noStream : s.wv = false) (d : Bit) :
    exec (.enc d) s = .next (raise .noStream s) := needStream_of_noStream key noStream _

theorem exec_enc_of_stream {s : State} (key : s.kv = true) (stream : s.wv = true) (d : Bit) :
    exec (.enc d) s = .next (respondBit (combine d (streamBit s)) (clockState s)) := needStream_of_stream key stream _

/-- Settles O19: KV is tested before WV, and with both set ENC is a clock that answers the combined bit. -/
theorem encCombinesThePlaintextBit : Obligations.EncCombinesThePlaintextBit := by
  refine ⟨encode_enc, fun d s noKey => ?_, fun d s key noStream => ?_, fun d s key stream => ?_⟩
  · rw [exec_enc_of_noKey noKey, raise_eq]
  · rw [exec_enc_of_noStream key noStream, raise_eq]
  · rw [exec_enc_of_stream key stream, respondBit_clockState_eq, combine_eq, streamBit_eq]

/-- Settles O20: every clause about the next state is ENC's, by `exec_dec_eq_exec_enc`. -/
theorem decCombinesTheCiphertextBit : Obligations.DecCombinesTheCiphertextBit := by
  obtain ⟨_, encNoKey, encNoStream, encStream⟩ := encCombinesThePlaintextBit
  refine ⟨encode_dec, fun d s noKey => ?_, fun d s key noStream => ?_, fun d s key stream => ?_, exec_dec_eq_exec_enc⟩
  · rw [exec_dec_eq_exec_enc, encNoKey d s noKey]
  · rw [exec_dec_eq_exec_enc, encNoStream d s key noStream]
  · rw [exec_dec_eq_exec_enc, encStream d s key stream]

end Sys2Proof.Machine

/-! The faults (rules R105 to R113): which entry of the fault matrix a command meets in a state, and the state after a
fault. Each command is compared with its entry once, in `exec_answers`. -/

namespace Sys2Proof.Machine

/-- The state after a fault (rule R112): InvalidKeyLength clears KV, WV and KC, the other faults clear nothing. -/
def faultState (f : FaultCause) (s : State) : State := raise f (if f = .invalidKeyLength then rejectKey s else s)

@[simp] theorem faultState_rsp (f : FaultCause) (s : State) : (faultState f s).rsp = some ⟨some f, false, false⟩ :=
  raise_rsp f _

theorem faultState_of_ne {f : FaultCause} (other : f ≠ .invalidKeyLength) (s : State) :
    faultState f s = raise f s := by
  rw [faultState, if_neg other]

theorem faultState_invalidKeyLength (s : State) :
    faultState .invalidKeyLength s = raise .invalidKeyLength (rejectKey s) := rfl

/-- The outcome `o` of a command in the state `s` is what the entry of the fault matrix asks for: completion, or exactly the
state after that fault. -/
def Answers (s : State) (o : Host.Outcome State Fault Refusal) : Option FaultCause → Prop
  | none => ∃ t ov ob, o = .next t ∧ t.rsp = some ⟨none, ov, ob⟩
  | some f => o = .next (faultState f s)

theorem respondOk_answers (s t : State) : Answers s (.next (respondOk t)) none := ⟨_, _, _, rfl, respondOk_rsp t⟩

theorem respondBit_answers (b : Bit) (s t : State) : Answers s (.next (respondBit b t)) none :=
  ⟨_, _, _, rfl, respondBit_rsp b t⟩

theorem needEngine_answers {s ok : State} (completes : Answers s (.next ok) none) :
    Answers s (needEngine s ok) (if s.kv then none else some .noEngine) := by
  cases key : s.kv with
  | true => rwa [needEngine_of_key key]
  | false => exact needEngine_of_noKey key ok

/-- KV is tested before WV (rule R110). -/
theorem needStream_answers {s ok : State} (completes : Answers s (.next ok) none) :
    Answers s (needStream s ok) (if s.kv then (if s.wv then none else some .noStream) else some .noEngine) := by
  cases key : s.kv with
  | false => exact needStream_of_noKey key ok
  | true =>
    cases stream : s.wv with
    | true => rwa [needStream_of_stream key stream]
    | false => exact needStream_of_noStream key stream ok

theorem exec_kend_answers (s : State) :
    Answers s (exec .kend s) (if s.kc.toNat = 64 then none else some .invalidKeyLength) := by
  by_cases exact64 : s.kc.toNat = 64
  · rw [exec_kend_of_eq exact64, if_pos exact64]
    exact respondOk_answers s _
  · rw [if_neg exact64]
    exact exec_kend_of_ne exact64

/-- Every command in every state meets its entry of the fault matrix. -/
theorem exec_answers (i : Instr) (s : State) : Answers s (exec i s) (faultOf s.kv s.wv s.kc.toNat i) := by
  cases i with
  | nop | kclr | kbit d => exact respondOk_answers s _
  | kend => exact exec_kend_answers s
  | reset => exact needEngine_answers (respondOk_answers s _)
  | maj | step | enc d | dec d => exact needStream_answers (respondBit_answers _ s _)

/-- Whatever the entry, the outcome is a next state whose response reports that entry. -/
theorem Answers.response {s : State} {o : Host.Outcome State Fault Refusal} :
    ∀ {cause : Option FaultCause}, Answers s o cause → ∃ t r, o = .next t ∧ t.rsp = some r ∧ r.flt = cause
  | none, ⟨t, _, _, next, rsp⟩ => ⟨t, _, next, rsp, rfl⟩
  | some f, next => ⟨faultState f s, _, next, faultState_rsp f s, rfl⟩

/-- A reported fault is the entry itself, so the next state is the state after it. -/
theorem Answers.eq_faultState {s t : State} {cause : Option FaultCause} {r : Response} {f : FaultCause}
    (answers : Answers s (.next t) cause) (rsp : t.rsp = some r) (fault : r.flt = some f) : t = faultState f s := by
  obtain ⟨t', r', next, rsp', flt⟩ := answers.response
  cases next
  cases rsp.symm.trans rsp'
  cases flt.symm.trans fault
  cases answers
  rfl

/-- A presented word meets an entry as well: a command its own, any other word IllegalCommand in every state. -/
theorem present_answers (w : CmdWord) (s : State) : ∃ cause, Answers s (present w s) cause := by
  cases decoded : decode w with
  | command i => exact ⟨_, present_of_command decoded s ▸ exec_answers i s⟩
  | illegal why => exact ⟨some .illegalCommand, present_of_illegal decoded s⟩

/-- Settles O31: a word that answers a fault leaves `faultState`, whose two cases are the two clauses. -/
theorem faultsLeaveTheStateAlone : Obligations.FaultsLeaveTheStateAlone := by
  intro w s t r f next rsp fault
  obtain ⟨cause, answers⟩ := present_answers w s
  rw [next] at answers
  obtain rfl := answers.eq_faultState rsp fault
  obtain rfl : ⟨some f, false, false⟩ = r := Option.some.inj ((faultState_rsp f s).symm.trans rsp)
  refine ⟨fun other => ?_, ?_⟩
  · rw [faultState_of_ne other, raise_eq]
  · rintro rfl
    rw [faultState_invalidKeyLength, raise_eq, rejectKey_eq]

theorem isIllegal_iff (w : CmdWord) : isIllegal w = true ↔ ∃ why, decode w = .illegal why := by
  unfold isIllegal
  cases decode w <;> simp

/-- Settles O32: `exec_answers` for the commands; a word that is no command is decided before the state is read. -/
theorem faultPriorityFollowsTheMatrix : Obligations.FaultPriorityFollowsTheMatrix := by
  refine ⟨fun i s => (exec_answers i s).response, fun w s illegal => ?_⟩
  obtain ⟨why, decoded⟩ := (isIllegal_iff w).mp illegal
  exact ⟨_, _, present_of_illegal decoded s, raise_rsp _ s, rfl⟩

end Sys2Proof.Machine

/-! The decoder and the encoder as inverses (rules R48, R49), and the words of the pseudo-instructions (rules R54 to R56). -/

namespace Sys2Proof

/-- Settles O1: the fields of a word determine the command, and the fields of a command the word. -/
theorem decodeInvertsEncode : Obligations.DecodeInvertsEncode := decode_eq_command_iff_encode

@[simp] theorem decode_encode (i : Instr) : decode (encode i) = .command i :=
  (decode_eq_command_iff_encode (encode i) i).mpr rfl

/-- Settles O4: each word is the encoding of its command. -/
theorem wordsOfTheTableDecode : Obligations.WordsOfTheTableDecode :=
  ⟨decode_encode .nop, decode_encode .kclr, decode_encode (.kbit false), decode_encode (.kbit true),
    decode_encode .kend, decode_encode .reset, decode_encode .maj, decode_encode .step,
    decode_encode (.enc true), decode_encode (.dec false)⟩

/-- A word that is not well formed is no command's word, so the decoder refuses it (rule R49). -/
theorem decode_illegal_of_not_legalWord {w : CmdWord} (notLegal : legalWord w = false) :
    ∃ why, decode w = .illegal why := by
  cases decoded : decode w with
  | illegal why => exact ⟨why, rfl⟩
  | command i =>
    obtain rfl := (decode_eq_command_iff_encode w i).mp decoded
    obtain ⟨legal, _, _⟩ := Laws.EncodingLegal.all i
    exact absurd (notLegal.symm.trans legal) Bool.false_ne_true

theorem decode_of_decodeTableWord {nbits w : Nat} {i : Instr} (h : decodeTableWord nbits w = some i) :
    decode (tableWord nbits w) = .command i := by
  unfold decodeTableWord at h
  split at h
  · next j decoded => rw [decoded, Option.some.inj h]
  · cases h

end Sys2Proof

namespace Sys2Proof.Machine

theorem newKey_words (k : List Bit) :
    newKey k = 0x10 :: (k.map (fun d => if d then 0x21 else 0x20) ++ [0x30]) := by
  simp only [newKey, encode_kbit]
  rfl

theorem encrypt_words (p : List Bit) : encrypt p = 0x40 :: p.map (fun d => if d then 0x81 else 0x80) := by
  simp only [encrypt, encode_enc]
  rfl

theorem decrypt_words (c : List Bit) : decrypt c = 0x40 :: c.map (fun d => if d then 0x91 else 0x90) := by
  simp only [decrypt, encode_dec]
  rfl

/-- Settles O53: each command is replaced by its word, and each bit by one command. -/
theorem pseudoInstructionsExpandToTheirWords : Obligations.PseudoInstructionsExpandToTheirWords :=
  ⟨fun k => ⟨newKey_words k, by simp [newKey]⟩, fun _ => rfl, fun p => ⟨encrypt_words p, by simp [encrypt]⟩,
    fun c => ⟨decrypt_words c, by simp [decrypt]⟩⟩

end Sys2Proof.Machine

/-! What the operations on the state leave of it, read through the two views R1 to R3 and I1 to I3, and through the fields
for the operations that a command is made of. -/

namespace Sys2Proof.Machine

@[simp] theorem State.setBuffer_working (s : State) (k : KeyBits) : (s.setBuffer k).working = s.working := rfl
@[simp] theorem State.setBuffer_initial (s : State) (k : KeyBits) : (s.setBuffer k).initial = s.initial := rfl
@[simp] theorem State.setCount_working (s : State) (n : Counter) : (s.setCount n).working = s.working := rfl
@[simp] theorem State.setCount_initial (s : State) (n : Counter) : (s.setCount n).initial = s.initial := rfl

@[simp] theorem respondOk_working (s : State) : (respondOk s).working = s.working := rfl
@[simp] theorem respondOk_initial (s : State) : (respondOk s).initial = s.initial := rfl
@[simp] theorem respondBit_working (b : Bit) (s : State) : (respondBit b s).working = s.working := rfl
@[simp] theorem respondBit_initial (b : Bit) (s : State) : (respondBit b s).initial = s.initial := rfl
@[simp] theorem raise_working (f : FaultCause) (s : State) : (raise f s).working = s.working := rfl
@[simp] theorem raise_initial (f : FaultCause) (s : State) : (raise f s).initial = s.initial := rfl

@[simp] theorem acceptKey_kv (s : State) : (acceptKey s).kv = true := rfl
@[simp] theorem acceptKey_wv (s : State) : (acceptKey s).wv = false := rfl
@[simp] theorem acceptKey_kb (s : State) : (acceptKey s).kb = s.kb := rfl
@[simp] theorem acceptKey_kc (s : State) : (acceptKey s).kc = 0 := rfl
@[simp] theorem acceptKey_initial (s : State) : (acceptKey s).initial = split s.kb := rfl
@[simp] theorem acceptKey_working (s : State) : (acceptKey s).working = s.working := rfl
@[simp] theorem acceptKey_inputs (s : State) : (acceptKey s).inputs = s.inputs := rfl
@[simp] theorem acceptKey_draws (s : State) : (acceptKey s).draws = s.draws := rfl

@[simp] theorem rejectKey_kv (s : State) : (rejectKey s).kv = false := rfl
@[simp] theorem rejectKey_wv (s : State) : (rejectKey s).wv = false := rfl
@[simp] theorem rejectKey_kb (s : State) : (rejectKey s).kb = s.kb := rfl
@[simp] theorem rejectKey_kc (s : State) : (rejectKey s).kc = 0 := rfl
@[simp] theorem rejectKey_initial (s : State) : (rejectKey s).initial = s.initial := rfl
@[simp] theorem rejectKey_working (s : State) : (rejectKey s).working = s.working := rfl
@[simp] theorem rejectKey_inputs (s : State) : (rejectKey s).inputs = s.inputs := rfl
@[simp] theorem rejectKey_draws (s : State) : (rejectKey s).draws = s.draws := rfl

@[simp] theorem startStream_kv (s : State) : (startStream s).kv = s.kv := rfl
@[simp] theorem startStream_wv (s : State) : (startStream s).wv = true := rfl
@[simp] theorem startStream_kb (s : State) : (startStream s).kb = s.kb := rfl
@[simp] theorem startStream_kc (s : State) : (startStream s).kc = s.kc := rfl
@[simp] theorem startStream_initial (s : State) : (startStream s).initial = s.initial := rfl
@[simp] theorem startStream_working (s : State) : (startStream s).working = s.initial := rfl
@[simp] theorem startStream_inputs (s : State) : (startStream s).inputs = s.inputs := rfl
@[simp] theorem startStream_draws (s : State) : (startStream s).draws = s.draws := rfl

@[simp] theorem clockState_kv (s : State) : (clockState s).kv = s.kv := rfl
@[simp] theorem clockState_wv (s : State) : (clockState s).wv = s.wv := rfl
@[simp] theorem clockState_kb (s : State) : (clockState s).kb = s.kb := rfl
@[simp] theorem clockState_kc (s : State) : (clockState s).kc = s.kc := rfl
@[simp] theorem clockState_initial (s : State) : (clockState s).initial = s.initial := rfl
@[simp] theorem clockState_working (s : State) : (clockState s).working = advance s.working := rfl
@[simp] theorem clockState_inputs (s : State) : (clockState s).inputs = s.inputs := rfl
@[simp] theorem clockState_draws (s : State) : (clockState s).draws = s.draws := rfl

@[simp] theorem enterKeyBit_kv (d : Bit) (s : State) : (enterKeyBit d s).kv = s.kv := by
  obtain ⟨_, entered⟩ | ⟨_, dropped⟩ := enterKeyBit_cases d s <;> simp [*]

@[simp] theorem enterKeyBit_wv (d : Bit) (s : State) : (enterKeyBit d s).wv = s.wv := by
  obtain ⟨_, entered⟩ | ⟨_, dropped⟩ := enterKeyBit_cases d s <;> simp [*]

@[simp] theorem enterKeyBit_working (d : Bit) (s : State) : (enterKeyBit d s).working = s.working := by
  obtain ⟨_, entered⟩ | ⟨_, dropped⟩ := enterKeyBit_cases d s <;> simp [*]

@[simp] theorem enterKeyBit_initial (d : Bit) (s : State) : (enterKeyBit d s).initial = s.initial := by
  obtain ⟨_, entered⟩ | ⟨_, dropped⟩ := enterKeyBit_cases d s <;> simp [*]

@[simp] theorem enterKeyBit_inputs (d : Bit) (s : State) : (enterKeyBit d s).inputs = s.inputs := by
  obtain ⟨_, entered⟩ | ⟨_, dropped⟩ := enterKeyBit_cases d s <;> simp [*]

@[simp] theorem enterKeyBit_draws (d : Bit) (s : State) : (enterKeyBit d s).draws = s.draws := by
  obtain ⟨_, entered⟩ | ⟨_, dropped⟩ := enterKeyBit_cases d s <;> simp [*]

end Sys2Proof.Machine

/-! What a command can do, said once (`exec_effect`), with the guard of each effect and the response that goes with it. -/

namespace Sys2Proof.Machine

/-- The commands that clock the working registers (rules R87, R96, R97). -/
def Clocks (i : Instr) : Prop := i = .step ∨ (∃ d, i = .enc d) ∨ ∃ d, i = .dec d

/-- Everything a command can do to the state `s`, with the guard under which it does it (rule R20). -/
inductive Effect (s : State) : Instr → State → Prop
  | fault (i : Instr) (f : FaultCause) : Effect s i (raise f s)
  | nothing : Effect s .nop (respondOk s)
  | restartEntry : Effect s .kclr (respondOk (s.setCount 0))
  | enterBit (d : Bit) : Effect s (.kbit d) (respondOk (enterKeyBit d s))
  | acceptKey (exact64 : s.kc.toNat = 64) : Effect s .kend (respondOk (acceptKey s))
  | rejectKey (wrong : s.kc.toNat ≠ 64) : Effect s .kend (raise .invalidKeyLength (rejectKey s))
  | startStream (key : s.kv = true) : Effect s .reset (respondOk (startStream s))
  | vote : Effect s .maj (respondBit (vote s.working) s)
  | clock {i : Instr} (clocks : Clocks i) (key : s.kv = true) (stream : s.wv = true) (b : Bit) :
      Effect s i (respondBit b (clockState s))

theorem needStream_clock_effect {i : Instr} (clocks : Clocks i) {b : Bit} {s t : State}
    (next : needStream s (respondBit b (clockState s)) = .next t) : Effect s i t := by
  obtain ⟨key, stream, rfl⟩ | ⟨_, _, rfl⟩ | ⟨_, rfl⟩ := needStream_cases next
  · exact .clock clocks key stream b
  · exact .fault i .noStream
  · exact .fault i .noEngine

theorem exec_effect {i : Instr} {s t : State} (next : exec i s = .next t) : Effect s i t := by
  cases i with
  | nop => cases next; exact .nothing
  | kclr => cases next; exact .restartEntry
  | kbit d => cases next; exact .enterBit d
  | kend =>
    by_cases exact64 : s.kc.toNat = 64
    · cases (exec_kend_of_eq exact64).symm.trans next
      exact .acceptKey exact64
    · cases (exec_kend_of_ne exact64).symm.trans next
      exact .rejectKey exact64
  | reset =>
    obtain ⟨key, rfl⟩ | ⟨_, rfl⟩ := needEngine_cases next
    · exact .startStream key
    · exact .fault .reset .noEngine
  | maj =>
    obtain ⟨_, _, rfl⟩ | ⟨_, _, rfl⟩ | ⟨_, rfl⟩ := needStream_cases next
    · exact .vote
    · exact .fault .maj .noStream
    · exact .fault .maj .noEngine
  | step => exact needStream_clock_effect (.inl rfl) next
  | enc d => exact needStream_clock_effect (.inr (.inl ⟨d, rfl⟩)) next
  | dec d => exact needStream_clock_effect (.inr (.inr ⟨d, rfl⟩)) next

theorem readsStream_of_clocks {i : Instr} (clocks : Clocks i) : readsStream i = true := by
  obtain rfl | ⟨d, rfl⟩ | ⟨d, rfl⟩ := clocks <;> rfl

/-- The response of a command: a fault, an output bit of a command that reads the working registers, or completion of one
that does not (rule R31). -/
theorem Effect.rsp {i : Instr} {s t : State} (effect : Effect s i t) :
    (∃ f, t.rsp = some ⟨some f, false, false⟩) ∨
    (readsStream i = true ∧ ∃ b, t.rsp = some ⟨none, true, b⟩) ∨
    (readsStream i = false ∧ t.rsp = some ⟨none, false, false⟩) := by
  cases effect with
  | fault | rejectKey => exact .inl ⟨_, raise_rsp _ _⟩
  | nothing | restartEntry | enterBit | acceptKey | startStream => exact .inr (.inr ⟨rfl, respondOk_rsp _⟩)
  | vote => exact .inr (.inl ⟨rfl, _, respondBit_rsp _ _⟩)
  | clock clocks => exact .inr (.inl ⟨readsStream_of_clocks clocks, _, respondBit_rsp _ _⟩)

/-- A presented word always answers a next state: no meaning stops or refuses (rule R137). -/
theorem present_next (w : CmdWord) (s : State) : ∃ t, present w s = .next t :=
  let ⟨_, answers⟩ := present_answers w s
  let ⟨t, _, next, _⟩ := answers.response
  ⟨t, next⟩

theorem present_encode (i : Instr) (s : State) : present (encode i) s = exec i s :=
  present_of_command (decode_encode i) s

/-- Settles O30: each effect writes its own elements, under the guard it comes with. -/
theorem eachElementHasItsWriters : Obligations.EachElementHasItsWriters := by
  intro i s t next
  cases exec_effect next with
  | fault | nothing | restartEntry | vote => simp
  | enterBit d =>
    obtain ⟨room, entered⟩ | ⟨_, dropped⟩ := enterKeyBit_cases d s
    · simp [room]
    · simp [dropped]
  | acceptKey exact64 => simp [exact64]
  | rejectKey wrong => simp [wrong]
  | startStream key => simp [key]
  | clock clocks key stream =>
    exact ⟨by simp, by simp, by simp, by simp, fun _ => ⟨key, .inr ⟨stream, clocks⟩⟩, by simp, rfl, rfl⟩

end Sys2Proof.Machine

/-! The invariant of the states (rule R15 b, c, e): it holds after reset, every operation that a command is made of keeps
it, and so does every step. -/

namespace Sys2Proof.Machine

theorem State.Inv.setRsp {s : State} (inv : s.Inv) {r : Option Response}
    (shaped : ∀ q, r = some q → q.wellShaped = true) : (s.setRsp r).Inv where
  count := inv.count
  streamNeedsEngine := inv.streamNeedsEngine
  streamFromKey := inv.streamFromKey
  response := shaped

theorem State.Inv.respondOk {s : State} (inv : s.Inv) : (respondOk s).Inv :=
  inv.setRsp fun _ rsp => Option.some.inj rsp ▸ rfl

theorem State.Inv.respondBit {s : State} (inv : s.Inv) (b : Bit) : (respondBit b s).Inv :=
  inv.setRsp fun _ rsp => Option.some.inj rsp ▸ rfl

theorem State.Inv.raise {s : State} (inv : s.Inv) (f : FaultCause) : (raise f s).Inv :=
  inv.setRsp fun _ rsp => Option.some.inj rsp ▸ rfl

theorem State.Inv.idle {s : State} (inv : s.Inv) : (idle s).Inv := inv.setRsp nofun

theorem State.Inv.setInputs {s : State} (inv : s.Inv) (cs : List CycleIn) : (s.setInputs cs).Inv where
  count := inv.count
  streamNeedsEngine := inv.streamNeedsEngine
  streamFromKey := inv.streamFromKey
  response := inv.response

theorem State.Inv.setCount {s : State} (inv : s.Inv) {n : Counter} (small : n.toNat ≤ 65) : (s.setCount n).Inv where
  count := small
  streamNeedsEngine := inv.streamNeedsEngine
  streamFromKey := inv.streamFromKey
  response := inv.response

theorem State.Inv.setBuffer {s : State} (inv : s.Inv) (kb : KeyBits) : (s.setBuffer kb).Inv where
  count := inv.count
  streamNeedsEngine := inv.streamNeedsEngine
  streamFromKey := inv.streamFromKey
  response := inv.response

theorem State.Inv.enterKeyBit {s : State} (inv : s.Inv) (d : Bit) : (enterKeyBit d s).Inv := by
  have small := enterKeyBit_count_le d s
  obtain ⟨_, entered⟩ | ⟨_, dropped⟩ := enterKeyBit_cases d s
  · rw [entered] at small ⊢
    exact (inv.setBuffer _).setCount small
  · rw [dropped] at small ⊢
    exact inv.setCount small

/-- With WV cleared the invariant asks only for the count and the response (rule R15). -/
theorem State.Inv.of_noStream {s : State} (noStream : s.wv = false) (count : s.kc.toNat ≤ 65)
    (response : ∀ r, s.rsp = some r → r.wellShaped = true) : s.Inv where
  count := count
  streamNeedsEngine stream := by simp [noStream] at stream
  streamFromKey stream := by simp [noStream] at stream
  response := response

theorem State.Inv.acceptKey {s : State} (inv : s.Inv) : (acceptKey s).Inv :=
  .of_noStream rfl (Nat.zero_le 65) inv.response

theorem State.Inv.rejectKey {s : State} (inv : s.Inv) : (rejectKey s).Inv :=
  .of_noStream rfl (Nat.zero_le 65) inv.response

theorem hardwareReset_inv (s : State) : (hardwareReset s).Inv := .of_noStream rfl (Nat.zero_le 65) nofun

/-- Settles O42: the state after reset has WV and KC cleared and no response. -/
theorem resetStateMeetsTheInvariant : Obligations.ResetStateMeetsTheInvariant :=
  .of_noStream rfl (Nat.zero_le 65) nofun

/-- Settles O43: the three values are written out in `State.reset`, and the view shows them alone. -/
theorem resetStateHasNoEngine : Obligations.ResetStateHasNoEngine := ⟨rfl, rfl, rfl, rfl⟩

/-- A new stream stands at position 0. -/
theorem State.Inv.startStream {s : State} (inv : s.Inv) (key : s.kv = true) : (startStream s).Inv where
  count := inv.count
  streamNeedsEngine _ := key
  streamFromKey _ := ⟨0, rfl⟩
  response := inv.response

/-- One cycle moves a stream from position n to n + 1. -/
theorem State.Inv.clockState {s : State} (inv : s.Inv) : (clockState s).Inv where
  count := inv.count
  streamNeedsEngine := inv.streamNeedsEngine
  streamFromKey stream := by
    obtain ⟨n, position⟩ := inv.streamFromKey stream
    exact ⟨n + 1, by rw [clockState_working, clockState_initial, clockN_succ, position]⟩
  response := inv.response

theorem Effect.inv {i : Instr} {s t : State} (effect : Effect s i t) (inv : s.Inv) : t.Inv := by
  cases effect with
  | fault _ f => exact inv.raise f
  | nothing => exact inv.respondOk
  | restartEntry => exact (inv.setCount (n := 0) (Nat.zero_le 65)).respondOk
  | enterBit d => exact (inv.enterKeyBit d).respondOk
  | acceptKey => exact inv.acceptKey.respondOk
  | rejectKey => exact inv.rejectKey.raise _
  | startStream key => exact (inv.startStream key).respondOk
  | vote => exact inv.respondBit _
  | clock _ _ _ b => exact inv.clockState.respondBit b

theorem present_inv {w : CmdWord} {s t : State} (inv : s.Inv) (next : present w s = .next t) : t.Inv := by
  cases decoded : decode w with
  | command i =>
    rw [present_of_command decoded] at next
    exact (exec_effect next).inv inv
  | illegal why =>
    cases (present_of_illegal decoded s).symm.trans next
    exact inv.raise _

/-- Settles O41: waiting, hardware reset, a cycle without a command, and a presented word each keep the invariant. -/
theorem everyStepKeepsTheStateInvariant : Obligations.EveryStepKeepsTheStateInvariant := by
  intro s t inv next
  obtain ⟨_, wait⟩ | ⟨c, cs, _, _, reset⟩ | ⟨c, cs, _, _, _, noCommand⟩ | ⟨c, cs, _, _, _, word⟩ := step_cases s
  · cases wait.symm.trans next
    exact inv.idle
  · cases reset.symm.trans next
    exact hardwareReset_inv _
  · cases noCommand.symm.trans next
    exact (inv.setInputs cs).idle
  · exact present_inv (inv.setInputs cs) (word.symm.trans next)

end Sys2Proof.Machine

/-! The ports (rules R31, R109, R119, R125): which cycle a step takes, and what a cycle can do. -/

namespace Sys2Proof.Machine

theorem step_of_waiting {s : State} (waiting : s.inputs = []) : step s = .next (idle s) := by
  rw [step, tick, waiting]

theorem step_of_inputs {s : State} {c : CycleIn} {cs : List CycleIn} (inputs : s.inputs = c :: cs) :
    step s = cycle c (s.setInputs cs) := by
  rw [step, tick, inputs]

theorem cycle_of_reset {c : CycleIn} (reset : c.rst = true) (s : State) : cycle c s = .next (hardwareReset s) :=
  if_pos reset

theorem cycle_of_word {c : CycleIn} (noReset : c.rst = false) (valid : c.cmdValid = true) (s : State) :
    cycle c s = present c.cmd s := by
  rw [cycle, noReset, valid]
  rfl

/-- Settles O10: the wait clears the response port and writes nothing else. -/
theorem waitingEngineHoldsItsState : Obligations.WaitingEngineHoldsItsState := fun s waiting => by
  rw [step_of_waiting waiting, idle_eq]

/-- Settles O5: `step_of_inputs`, with the consumed cycle written out. -/
theorem stepTakesOneCycleOfThePins : Obligations.StepTakesOneCycleOfThePins := fun _ _ _ inputs =>
  step_of_inputs inputs

/-- Settles O6: the step is the cycle, the cycle presents the word, and the word runs its command. -/
theorem stepRunsThePresentedCommand : Obligations.StepRunsThePresentedCommand := by
  intro s c cs i inputs noReset valid decoded
  rw [step_of_inputs inputs, cycle_of_word noReset valid, present_of_command decoded, State.setInputs]

/-- Settles O7: a word that is not well formed is refused by the decoder, before any state is read. -/
theorem stepRefusesAnIllegalWord : Obligations.StepRefusesAnIllegalWord := by
  intro s c cs inputs noReset valid notLegal
  obtain ⟨why, decoded⟩ := decode_illegal_of_not_legalWord notLegal
  rw [step_of_inputs inputs, cycle_of_word noReset valid, present_of_illegal decoded, raise_eq, State.setInputs]

theorem step_withFetchWord (s : State) (nbits w : Nat) :
    step (s.withFetchWord nbits w) = present (tableWord nbits w) s := by
  have inputs : (s.withFetchWord nbits w).inputs = commandCycle (tableWord nbits w) :: s.inputs := rfl
  rw [step_of_inputs inputs, cycle_of_word rfl rfl]
  rfl

/-- Settles O8: the placed word is the next one presented, and the inputs behind it are those of the state itself. -/
theorem placedWordRunsNext : Obligations.PlacedWordRunsNext := by
  intro s w i _ decoded
  rw [step_withFetchWord, present_of_command (decode_of_decodeTableWord decoded)]

theorem cycle_next (c : CycleIn) (s : State) : ∃ t, cycle c s = .next t := by
  cases reset : c.rst with
  | true => exact ⟨_, cycle_of_reset reset s⟩
  | false =>
    cases valid : c.cmdValid with
    | true => exact cycle_of_word reset valid s ▸ present_next c.cmd s
    | false => exact ⟨_, cycle_of_noCommand reset valid s⟩

/-- Settles O45: the wait and every cycle of the pins answer a next state. -/
theorem everyStepAnswersANextState : Obligations.EveryStepAnswersANextState := by
  intro s
  cases inputs : s.inputs with
  | nil => exact ⟨_, step_of_waiting inputs⟩
  | cons c cs => exact step_of_inputs inputs ▸ cycle_next c _

/-- Only a KEND that rejects the key clears KV. -/
theorem Effect.clears_kv {i : Instr} {s t : State} (effect : Effect s i t) (before : s.kv = true)
    (after : t.kv = false) : i = .kend ∧ t.rsp = some ⟨some .invalidKeyLength, false, false⟩ := by
  cases effect with
  | rejectKey => exact ⟨rfl, rfl⟩
  | fault | nothing | restartEntry | enterBit | acceptKey | startStream | vote | clock => simp [before] at after

theorem present_clears_kv {w : CmdWord} {s t : State} (next : present w s = .next t) (before : s.kv = true)
    (after : t.kv = false) : decode w = .command .kend ∧ t.rsp = some ⟨some .invalidKeyLength, false, false⟩ := by
  cases decoded : decode w with
  | command i =>
    rw [present_of_command decoded] at next
    obtain ⟨rfl, rsp⟩ := (exec_effect next).clears_kv before after
    exact ⟨rfl, rsp⟩
  | illegal why =>
    cases (present_of_illegal decoded s).symm.trans next
    simp [before] at after

/-- Settles O9: the reset event is decided before the command is looked at; without it KV is cleared by a presented word
or not at all. -/
theorem hardwareResetForgetsTheEngine : Obligations.HardwareResetForgetsTheEngine := by
  refine ⟨fun c s reset => ⟨_, cycle_of_reset reset s, rfl, rfl, rfl, rfl⟩, fun c s t next before after => ?_⟩
  cases reset : c.rst with
  | true => exact .inl rfl
  | false =>
    cases valid : c.cmdValid with
    | true => exact .inr ⟨rfl, present_clears_kv (cycle_of_word reset valid s ▸ next) before after⟩
    | false =>
      cases (cycle_of_noCommand reset valid s).symm.trans next
      simp [before] at after

theorem faultCode_le : ∀ cause : Option FaultCause, (faultCode cause).toNat ≤ 4
  | none => by decide
  | some .invalidKeyLength => by decide
  | some .noEngine => by decide
  | some .noStream => by decide
  | some .illegalCommand => by decide

theorem faultCode_eq_zero_iff : ∀ cause : Option FaultCause, faultCode cause = 0 ↔ cause = none
  | none => by decide
  | some .invalidKeyLength => by decide
  | some .noEngine => by decide
  | some .noStream => by decide
  | some .illegalCommand => by decide

/-- The response of a presented word: a fault, or completion of a command that has an output bit exactly when it reads the
working registers (rule R31). -/
theorem present_rsp {w : CmdWord} {s t : State} (next : present w s = .next t) :
    (∃ f, t.rsp = some ⟨some f, false, false⟩) ∨
    ∃ i, decode w = .command i ∧
      ((readsStream i = true ∧ ∃ b, t.rsp = some ⟨none, true, b⟩) ∨
        (readsStream i = false ∧ t.rsp = some ⟨none, false, false⟩)) := by
  cases decoded : decode w with
  | command i =>
    rw [present_of_command decoded] at next
    exact (exec_effect next).rsp.imp_right fun completed => ⟨i, rfl, completed⟩
  | illegal why =>
    cases (present_of_illegal decoded s).symm.trans next
    exact .inl ⟨_, raise_rsp _ _⟩

/-- Settles O33: the three kinds of response, and the codes of the faults. -/
theorem everyWordGivesOneResponse : Obligations.EveryWordGivesOneResponse := by
  intro w s t next
  obtain ⟨f, rsp⟩ | ⟨i, decoded, ⟨reads, b, rsp⟩ | ⟨quiet, rsp⟩⟩ := present_rsp next
  all_goals refine ⟨_, rsp, ?_, ?_, ?_, faultCode_eq_zero_iff _, faultCode_le _⟩
  all_goals simp [*]

end Sys2Proof.Machine

/-! Repetition and order of commands (rules R36, R104, R113, R129, R132): what a command answers when it comes again at
once, after a fault, after KEND, or after a harmless command. -/

namespace Sys2Proof.Machine

/-- Settles O34: each of the four commands writes values that its own writes leave unchanged. -/
theorem repetitionChangesNothing : Obligations.RepetitionChangesNothing := by
  intro i s t idem next
  cases i with
  | nop | kclr => cases next; rfl
  | reset =>
    obtain ⟨key, rfl⟩ | ⟨noKey, rfl⟩ := needEngine_cases next
    · exact exec_reset_of_key key
    · exact exec_reset_of_noKey noKey
  | maj =>
    obtain ⟨key, stream, rfl⟩ | ⟨key, noStream, rfl⟩ | ⟨noKey, rfl⟩ := needStream_cases next
    · exact exec_maj_of_stream key stream
    · exact exec_maj_of_noStream key noStream
    · exact exec_maj_of_noKey noKey
  | kbit | kend | step | enc | dec => cases idem

/-- What every KEND leaves, accepted or not: no stream, no entered bits, and an engine exactly after 64 bits. -/
theorem exec_kend_flags {s t : State} (next : exec .kend s = .next t) :
    t.kv = decide (s.kc.toNat = 64) ∧ t.wv = false ∧ t.kc = 0 := by
  by_cases exact64 : s.kc.toNat = 64
  · cases (exec_kend_of_eq exact64).symm.trans next
    exact ⟨(decide_eq_true exact64).symm, rfl, rfl⟩
  · cases (exec_kend_of_ne exact64).symm.trans next
    exact ⟨(decide_eq_false exact64).symm, rfl, rfl⟩

/-- Settles O35: the first KEND clears the count and WV, so the second rejects and has only KV left to clear. -/
theorem secondKendDestroysTheEngine : Obligations.SecondKendDestroysTheEngine := by
  intro s t next
  obtain ⟨_, noStream, noBits⟩ := exec_kend_flags next
  rw [exec_kend_of_ne (by simp [noBits]), raise_eq, rejectKey_eq, ← noStream, ← noBits]

/-! A fault repeated (rule R113). -/

@[simp] theorem faultState_faultState (f : FaultCause) (s : State) : faultState f (faultState f s) = faultState f s := by
  cases f <;> rfl

/-- InvalidKeyLength is KEND's own fault. -/
theorem faultOf_eq_invalidKeyLength {kv wv : Bit} {kc : Nat} {i : Instr}
    (cause : faultOf kv wv kc i = some .invalidKeyLength) : i = .kend := by
  cases i with
  | kend => rfl
  | nop | kclr | kbit d => cases cause
  | reset | maj | step | enc d | dec d => cases kv <;> cases wv <;> cases cause

/-- After its fault a command still meets the same entry of the fault matrix. -/
theorem faultOf_faultState {i : Instr} {s : State} {f : FaultCause}
    (cause : faultOf s.kv s.wv s.kc.toNat i = some f) :
    faultOf (faultState f s).kv (faultState f s).wv (faultState f s).kc.toNat i = some f := by
  by_cases key : f = .invalidKeyLength
  · subst key
    obtain rfl := faultOf_eq_invalidKeyLength cause
    rfl
  · rwa [faultState_of_ne key]

/-- A command that reports a fault has met it in the fault matrix. -/
theorem faultOf_of_exec {i : Instr} {s t : State} {r : Response} {f : FaultCause} (next : exec i s = .next t)
    (rsp : t.rsp = some r) (fault : r.flt = some f) : faultOf s.kv s.wv s.kc.toNat i = some f := by
  obtain ⟨t', r', next', rsp', flt⟩ := (exec_answers i s).response
  cases next.symm.trans next'
  cases rsp.symm.trans rsp'
  exact flt.symm.trans fault

theorem exec_of_faultOf {i : Instr} {s : State} {f : FaultCause} (cause : faultOf s.kv s.wv s.kc.toNat i = some f) :
    exec i s = .next (faultState f s) := by
  have answers := exec_answers i s
  rwa [cause] at answers

/-- Settles O36: the state after the fault meets the same entry of the matrix and is its own state after that fault. -/
theorem repeatedFaultIsTheSameFault : Obligations.RepeatedFaultIsTheSameFault := by
  intro w s t r f next rsp fault
  cases decoded : decode w with
  | command i =>
    rw [present_of_command decoded] at next ⊢
    have cause := faultOf_of_exec next rsp fault
    cases (exec_of_faultOf cause).symm.trans next
    rw [exec_of_faultOf (faultOf_faultState cause), faultState_faultState]
  | illegal why =>
    cases (present_of_illegal decoded s).symm.trans next
    exact present_of_illegal decoded _

/-! The commands that read the working registers (rules R72, R87, R96, R97). -/

/-- Each answers one bit of the working registers and moves them on, both as functions of the working registers alone, or
faults for its flags. -/
theorem exec_readsStream {i : Instr} (reads : readsStream i = true) :
    ∃ (bit : Working → Bit) (move : Working → Working), ∀ s : State,
      exec i s = needStream s (respondBit (bit s.working) (s.setWorking (move s.working))) := by
  cases i with
  | maj => exact ⟨vote, id, fun _ => rfl⟩
  | step => exact ⟨fun w => (clock w).2, fun w => (clock w).1, fun _ => rfl⟩
  | enc d | dec d => exact ⟨fun w => combine d (clock w).2, fun w => (clock w).1, fun _ => rfl⟩
  | nop | kclr | kbit d | kend | reset => cases reads

/-- Settles O37: the three commands clock the same state and differ in the bit they answer. -/
theorem streamCommandsShareOneClock : Obligations.StreamCommandsShareOneClock := fun s d key stream =>
  ⟨clockState s, streamBit s, exec_step_of_stream key stream, exec_enc_of_stream key stream d,
    (exec_dec_eq_exec_enc d s).trans (exec_enc_of_stream key stream d)⟩

/-- Settles O38: WV is cleared by every KEND, and KV tells which one it was. -/
theorem kendEndsTheMessage : Obligations.KendEndsTheMessage := by
  intro i s t next reads
  obtain ⟨engine, noStream, _⟩ := exec_kend_flags next
  obtain ⟨bit, move, outcome⟩ := exec_readsStream reads
  rw [outcome]
  by_cases exact64 : s.kc.toNat = 64
  · rw [decide_eq_true exact64] at engine
    rw [needStream_of_noStream engine noStream, raise_eq, if_pos exact64]
  · rw [decide_eq_false exact64] at engine
    rw [needStream_of_noKey engine, raise_eq, if_neg exact64]

/-- What a harmless command leaves to the message (rule R129). -/
theorem Effect.harmless_frame {i : Instr} {s t : State} (effect : Effect s i t) (calm : harmless i = true) :
    t.working = s.working ∧ t.kv = s.kv ∧ t.wv = s.wv := by
  cases effect with
  | fault | nothing | restartEntry | enterBit | vote => simp
  | acceptKey | rejectKey | startStream => cases calm
  | clock clocks =>
    obtain rfl | ⟨d, rfl⟩ | ⟨d, rfl⟩ := clocks
    all_goals cases calm

/-- Settles O39: the stream command finds the working registers and the flags as they were, and reads nothing else. -/
theorem harmlessCommandsDoNotDisturbTheStream : Obligations.HarmlessCommandsDoNotDisturbTheStream := by
  intro i j s t u v calm reads between without after
  obtain ⟨working, kv, wv⟩ := (exec_effect between).harmless_frame calm
  obtain ⟨bit, move, outcome⟩ := exec_readsStream reads
  rw [outcome, needStream_eq] at without after
  rw [working, kv, wv] at after
  cases without
  cases after
  cases s.kv with
  | false => exact ⟨rfl, working, kv, wv⟩
  | true =>
    cases s.wv with
    | false => exact ⟨rfl, working, kv, wv⟩
    | true => exact ⟨rfl, rfl, kv, wv⟩

end Sys2Proof.Machine

/-! The clock as a whole (rules R88, R91, R92, R131): how many registers move, in which order they may be visited, and
what an all-zero register does. -/

namespace Sys2Proof.Machine

/-- Two or three bits agree with their majority, and three exactly when all are equal. -/
theorem maj_agreeing : ∀ a b c : Bit,
    let n := (if a = maj a b c then 1 else 0) + (if b = maj a b c then 1 else 0) + (if c = maj a b c then 1 else 0)
    2 ≤ n ∧ (n = 3 ↔ a = b ∧ b = c) := by decide

/-- Settles O26: the registers that are clocked are those whose bits agree with the majority. -/
theorem twoOrThreeRegistersAreClocked : Obligations.TwoOrThreeRegistersAreClocked := fun w =>
  maj_agreeing (w.r1.getLsbD 8) (w.r2.getLsbD 10) (w.r3.getLsbD 10)

/-- With the majority fixed, each visit reads and writes its own register only. -/
theorem visitRegister_comm (m : Bit) (w : Working) (j k : Fin 3) :
    visitRegister m (visitRegister m w j) k = visitRegister m (visitRegister m w k) j := by
  fin_cases j <;> fin_cases k <;> rfl

/-- Settles O27: visits commute, so every order ends where the order R1, R2, R3 does. -/
theorem orderOfTheUpdatesDoesNotMatter : Obligations.OrderOfTheUpdatesDoesNotMatter := fun w order perm =>
  calc order.foldl (visitRegister (vote w)) w
      = [0, 1, 2].foldl (visitRegister (vote w)) w :=
        perm.foldl_eq' (fun j _ k _ v => visitRegister_comm (vote w) v j k) w
    _ = (clock w).1 := rfl

theorem feedback_zero {n : Nat} (taps : List Nat) : feedback taps (0 : BitVec n) = false := by
  simp [feedback]

theorem shiftIn_zero (n : Nat) : shiftIn (0 : BitVec n) false = 0 := by
  simp [shiftIn]

/-- Clocked or not, an all-zero register stays zero (rule R131). -/
theorem clockRegister_zero (n clk : Nat) (taps : List Nat) (m : Bit) :
    clockRegister clk taps m (0 : BitVec n) = 0 := by
  by_cases agrees : (0 : BitVec n).getLsbD clk = m
  · rw [clockRegister_of_agrees agrees, feedback_zero, shiftIn_zero]
  · exact clockRegister_of_differs agrees

theorem advance_r1_of_zero {w : Working} (zero : w.r1 = 0) : (advance w).r1 = 0 := by
  rw [advance_eq, zero, clockRegister_zero]

theorem advance_r2_of_zero {w : Working} (zero : w.r2 = 0) : (advance w).r2 = 0 := by
  rw [advance_eq, zero, clockRegister_zero]

theorem advance_r3_of_zero {w : Working} (zero : w.r3 = 0) : (advance w).r3 = 0 := by
  rw [advance_eq, zero, clockRegister_zero]

/-- Settles O28: a register that stays zero has a zero top bit in the output's exclusive-or. -/
theorem zeroRegisterStaysZero : Obligations.ZeroRegisterStaysZero := by
  refine fun w => ⟨fun zero => ?_, fun zero => ?_, fun zero => ?_⟩
  · have stays := advance_r1_of_zero zero
    exact ⟨stays, by simp [zero], by simp [outputBit_eq, stays]⟩
  · have stays := advance_r2_of_zero zero
    exact ⟨stays, by simp [zero], by simp [outputBit_eq, stays]⟩
  · have stays := advance_r3_of_zero zero
    exact ⟨stays, by simp [zero], by simp [outputBit_eq, stays]⟩

theorem clock_zero : clock ⟨0, 0, 0⟩ = (⟨0, 0, 0⟩, false) := by
  have registers : advance ⟨0, 0, 0⟩ = ⟨0, 0, 0⟩ := by
    simp only [advance_eq, clockRegister_zero]
  rw [clock_eq, registers]
  rfl

theorem clockN_of_zero (n : Nat) : clockN n ⟨0, 0, 0⟩ = ⟨0, 0, 0⟩ := by
  induction n with
  | zero => rfl
  | succ n ih => rw [clockN, clock_zero, ih]

theorem keystream_of_zero (n : Nat) : keystream n ⟨0, 0, 0⟩ = List.replicate n false := by
  induction n with
  | zero => rfl
  | succ n ih => rw [keystream, clock_zero, ih, List.replicate_succ]

/-- Settles O29: the fixed point, cycle by cycle, and the one cycle from all ones by running it. -/
theorem allZeroStateAnswersZeroForEver : Obligations.AllZeroStateAnswersZeroForEver :=
  ⟨fun n => ⟨clockN_of_zero n, keystream_of_zero n⟩, by decide⟩

end Sys2Proof.Machine

/-! What a host can tell apart (rules R21, R23): two states that agree on what counts answer every command alike and go on
agreeing. Said first of the operations, then of a command, a word and a run. -/

namespace Sys2Proof.Machine

theorem State.SameToHost.setRsp {s t : State} (same : s.SameToHost t) (q r : Option Response) :
    (s.setRsp q).SameToHost (t.setRsp r) where
  kv := same.kv
  wv := same.wv
  kc := same.kc
  entered := same.entered
  key := same.key
  stream := same.stream

/-- With no bit entered the buffer does not count. -/
theorem State.SameToHost.clearCount {s t : State} (same : s.SameToHost t) : (s.setCount 0).SameToHost (t.setCount 0) where
  kv := same.kv
  wv := same.wv
  kc := rfl
  entered _ before := absurd before (Nat.not_lt_zero _)
  key := same.key
  stream := same.stream

/-- With 64 bits or more entered the whole buffer counts. -/
theorem State.SameToHost.buffer {s t : State} (same : s.SameToHost t) (full : 64 ≤ s.kc.toNat) : s.kb = t.kb :=
  BitVec.eq_of_getLsbD_eq fun j inside => same.entered j (inside.trans_le full)

/-- The entered bit is the same on both sides, and the bits before it were. -/
theorem State.SameToHost.enterKeyBit {s t : State} (same : s.SameToHost t) (d : Bit) :
    (enterKeyBit d s).SameToHost (enterKeyBit d t) where
  kv := by simpa using same.kv
  wv := by simpa using same.wv
  kc := by
    by_cases room : s.kc.toNat < 64
    · rw [enterKeyBit_of_lt room, enterKeyBit_of_lt (same.kc ▸ room), State.setCount_kc, State.setCount_kc, same.kc]
    · rw [enterKeyBit_of_ge (Nat.not_lt.mp room), enterKeyBit_of_ge (same.kc ▸ Nat.not_lt.mp room)]
      rfl
  entered j before := by
    by_cases room : s.kc.toNat < 64
    · have counted : (s.kc + 1).toNat = s.kc.toNat + 1 := by
        rw [BitVec.toNat_add]
        exact Nat.mod_eq_of_lt (by simp; omega)
      rw [enterKeyBit_of_lt room] at before ⊢
      rw [enterKeyBit_of_lt (same.kc ▸ room)]
      simp only [State.setCount_kc, State.setCount_kb, State.setBuffer_kb] at before ⊢
      rw [← same.kc, getLsbD_writeBit _ _ _ _ room, getLsbD_writeBit _ _ _ _ room]
      split
      case isTrue => rfl
      case isFalse other => exact same.entered j (by omega)
    · have full := Nat.not_lt.mp room
      rw [enterKeyBit_of_ge full, enterKeyBit_of_ge (same.kc ▸ full), State.setCount_kb, State.setCount_kb,
        same.buffer full]
  key := by simpa using same.key
  stream := by simpa using same.stream

theorem State.SameToHost.acceptKey {s t : State} (same : s.SameToHost t) (full : 64 ≤ s.kc.toNat) :
    (acceptKey s).SameToHost (acceptKey t) where
  kv := rfl
  wv := rfl
  kc := rfl
  entered _ before := absurd before (Nat.not_lt_zero _)
  key _ := congrArg split (same.buffer full)
  stream := nofun

theorem State.SameToHost.of_noEngine {s t : State} (flags : s.kv = false ∧ s.wv = false ∧ s.kc = 0)
    (flags' : t.kv = false ∧ t.wv = false ∧ t.kc = 0) : s.SameToHost t := by
  obtain ⟨kv, wv, kc⟩ := flags
  obtain ⟨kv', wv', kc'⟩ := flags'
  exact {
    kv := kv.trans kv'.symm
    wv := wv.trans wv'.symm
    kc := kc.trans kc'.symm
    entered := by simp [kc]
    key := by simp [kv]
    stream := by simp [wv] }

theorem State.SameToHost.startStream {s t : State} (same : s.SameToHost t) (key : s.kv = true) :
    (startStream s).SameToHost (startStream t) where
  kv := same.kv
  wv := rfl
  kc := same.kc
  entered := same.entered
  key := same.key
  stream _ := same.key key

theorem State.SameToHost.setWorking {s t : State} (same : s.SameToHost t) (w : Working) :
    (s.setWorking w).SameToHost (t.setWorking w) where
  kv := same.kv
  wv := same.wv
  kc := same.kc
  entered := same.entered
  key := same.key
  stream _ := rfl

/-- Two outcomes a host cannot tell apart: the same response, and next states that agree on what counts. -/
def SameOutcome (o o' : Host.Outcome State Fault Refusal) : Prop :=
  ∃ u v, o = .next u ∧ o' = .next v ∧ u.rsp = v.rsp ∧ u.SameToHost v

theorem State.SameToHost.respondOk {s t : State} (same : s.SameToHost t) :
    SameOutcome (.next (respondOk s)) (.next (respondOk t)) := ⟨_, _, rfl, rfl, rfl, same.setRsp _ _⟩

theorem State.SameToHost.respondBit {s t : State} (same : s.SameToHost t) (b : Bit) :
    SameOutcome (.next (respondBit b s)) (.next (respondBit b t)) := ⟨_, _, rfl, rfl, rfl, same.setRsp _ _⟩

theorem State.SameToHost.raise {s t : State} (same : s.SameToHost t) (f : FaultCause) :
    SameOutcome (.next (raise f s)) (.next (raise f t)) := ⟨_, _, rfl, rfl, rfl, same.setRsp _ _⟩

/-- The tests of the flags come out the same, so only the completed outcomes are left to compare. -/
theorem State.SameToHost.needEngine {s t ok ok' : State} (same : s.SameToHost t)
    (completed : s.kv = true → SameOutcome (.next ok) (.next ok')) :
    SameOutcome (needEngine s ok) (needEngine t ok') := by
  cases key : s.kv with
  | true =>
    rw [needEngine_of_key key, needEngine_of_key (same.kv ▸ key)]
    exact completed key
  | false =>
    rw [needEngine_of_noKey key, needEngine_of_noKey (same.kv ▸ key)]
    exact same.raise _

theorem State.SameToHost.needStream {s t ok ok' : State} (same : s.SameToHost t)
    (completed : s.wv = true → SameOutcome (.next ok) (.next ok')) :
    SameOutcome (needStream s ok) (needStream t ok') := by
  refine same.needEngine fun _ => ?_
  rw [← same.wv]
  cases stream : s.wv with
  | true => exact completed stream
  | false => exact same.raise _

theorem State.SameToHost.exec_kend {s t : State} (same : s.SameToHost t) :
    SameOutcome (exec .kend s) (exec .kend t) := by
  by_cases exact64 : s.kc.toNat = 64
  · rw [exec_kend_of_eq exact64, exec_kend_of_eq (same.kc ▸ exact64)]
    exact (same.acceptKey exact64.ge).respondOk
  · rw [exec_kend_of_ne exact64, exec_kend_of_ne (same.kc ▸ exact64)]
    exact (of_noEngine ⟨rfl, rfl, rfl⟩ ⟨rfl, rfl, rfl⟩).raise _

/-- A valid stream stands in the same registers on both sides, so the same bit is answered and the same move is made. -/
theorem State.SameToHost.exec_readsStream {i : Instr} (reads : readsStream i = true) {s t : State}
    (same : s.SameToHost t) : SameOutcome (exec i s) (exec i t) := by
  obtain ⟨bit, move, outcome⟩ := Machine.exec_readsStream reads
  rw [outcome, outcome]
  refine same.needStream fun stream => ?_
  rw [← same.stream stream]
  exact (same.setWorking _).respondBit _

theorem State.SameToHost.exec {s t : State} (same : s.SameToHost t) (i : Instr) :
    SameOutcome (exec i s) (exec i t) := by
  cases i with
  | nop => exact same.respondOk
  | kclr => exact same.clearCount.respondOk
  | kbit d => exact (same.enterKeyBit d).respondOk
  | kend => exact same.exec_kend
  | reset => exact same.needEngine fun key => (same.startStream key).respondOk
  | maj | step | enc d | dec d => exact same.exec_readsStream rfl

theorem State.SameToHost.present {s t : State} (same : s.SameToHost t) (w : CmdWord) :
    SameOutcome (present w s) (present w t) := by
  cases decoded : decode w with
  | command i =>
    rw [present_of_command decoded, present_of_command decoded]
    exact same.exec i
  | illegal why =>
    rw [present_of_illegal decoded, present_of_illegal decoded]
    exact same.raise _

theorem State.SameToHost.status {s t : State} (same : s.SameToHost t) : s.status = t.status := by
  rw [State.status, State.status, same.kv, same.wv, same.kc]

theorem State.SameToHost.runWords {s t : State} (same : s.SameToHost t) (ws : List CmdWord) :
    ∃ a b, runWords ws s = .next a ∧ runWords ws t = .next b ∧ a.responses = b.responses ∧
      a.final.SameToHost b.final := by
  induction ws generalizing s t with
  | nil => exact ⟨_, _, rfl, rfl, rfl, same⟩
  | cons w ws ih =>
    obtain ⟨u, v, left, right, rsp, same'⟩ := same.present w
    obtain ⟨a, b, restLeft, restRight, responses, final⟩ := ih same'
    exact ⟨_, _, runWords_cons left restLeft, runWords_cons right restRight, by rw [rsp, responses], final⟩

/-- Settles O44: the relation runs along every sequence of words and shows the same view, and a hardware reset leaves
nothing that counts but cleared flags. -/
theorem unspecifiedContentsCannotBeObserved : Obligations.UnspecifiedContentsCannotBeObserved := by
  refine ⟨fun ws s t same => ?_, fun s t => .of_noEngine ⟨rfl, rfl, rfl⟩ ⟨rfl, rfl, rfl⟩⟩
  obtain ⟨a, b, left, right, responses, final⟩ := same.runWords ws
  exact ⟨a, b, left, right, responses, final.status, final⟩

end Sys2Proof.Machine

/-! Runs of words (rule R136), and the pseudo-instruction NEW (rules R54, R65, R66): KCLR, one KBIT for each bit of the
key, KEND. -/

namespace Sys2Proof.Machine

theorem runWords_encode_cons {i : Instr} {ws : List CmdWord} {s t : State} {r : Run} (next : exec i s = .next t)
    (rest : runWords ws t = .next r) :
    runWords (encode i :: ws) s = .next ⟨r.final, t.rsp.toList ++ r.responses⟩ :=
  runWords_cons ((present_encode i s).trans next) rest

/-- The state after one KBIT for each bit of `k`. -/
def enterKey : List Bit → State → State
  | [], s => s
  | d :: k, s => enterKey k (respondOk (enterKeyBit d s))

theorem runWords_kbit (k : List Bit) (s : State) :
    runWords (k.map fun d => encode (.kbit d)) s = .next ⟨enterKey k s, List.replicate k.length ⟨none, false, false⟩⟩ := by
  induction k generalizing s with
  | nil => rfl
  | cons d k ih => exact runWords_encode_cons (exec_kbit d s) (ih _)

theorem enterKeyBit_count {s : State} (small : s.kc.toNat ≤ 65) (d : Bit) :
    (enterKeyBit d s).kc.toNat = min (s.kc.toNat + 1) 65 := by
  obtain ⟨room, entered⟩ | ⟨full, dropped⟩ := enterKeyBit_cases d s
  · rw [entered, State.setCount_kc, BitVec.toNat_add]
    simp
    omega
  · rw [dropped, State.setCount_kc, Nat.min_eq_right (by omega)]
    rfl

/-- Entry counts the bits and saturates at 65 (rule R62). -/
theorem enterKey_count (k : List Bit) {s : State} (small : s.kc.toNat ≤ 65) :
    (enterKey k s).kc.toNat = min (s.kc.toNat + k.length) 65 := by
  induction k generalizing s with
  | nil => exact (Nat.min_eq_left small).symm
  | cons d k ih =>
    have count : (respondOk (enterKeyBit d s)).kc.toNat = _ := enterKeyBit_count small d
    rw [enterKey, ih (by omega), count, List.length_cons]
    omega

@[simp] theorem enterKey_working (k : List Bit) (s : State) : (enterKey k s).working = s.working := by
  induction k generalizing s with
  | nil => rfl
  | cons d k ih => rw [enterKey, ih, respondOk_working, enterKeyBit_working]

/-- Entry does not touch the bits entered before. -/
theorem enterKey_before (k : List Bit) {s : State} {j : Nat} (small : s.kc.toNat ≤ 65) (before : j < s.kc.toNat) :
    (enterKey k s).kb.getLsbD j = s.kb.getLsbD j := by
  induction k generalizing s with
  | nil => rfl
  | cons d k ih =>
    have count : (respondOk (enterKeyBit d s)).kc.toNat = _ := enterKeyBit_count small d
    rw [enterKey, ih (by omega) (by omega), respondOk_kb]
    obtain ⟨room, entered⟩ | ⟨_, dropped⟩ := enterKeyBit_cases d s
    · rw [entered]
      exact getLsbD_writeBit_other room before.ne s.kb d
    · rw [dropped, State.setCount_kb]

/-- The i-th bit of `k` stands i positions above where entry began, as long as it fits into the buffer. -/
theorem enterKey_entered (k : List Bit) {s : State} {i : Nat} (inKey : i < k.length) (room : s.kc.toNat + i < 64) :
    (enterKey k s).kb.getLsbD (s.kc.toNat + i) = k.getD i false := by
  induction k generalizing s i with
  | nil => cases inKey
  | cons d k ih =>
    have begin : s.kc.toNat < 64 := by omega
    have count : (respondOk (enterKeyBit d s)).kc.toNat = s.kc.toNat + 1 := by
      rw [respondOk_kc, enterKeyBit_count (by omega), Nat.min_eq_left (by omega)]
    cases i with
    | zero =>
      rw [enterKey, enterKey_before k (by omega) (by omega), respondOk_kb, enterKeyBit_of_lt begin]
      exact getLsbD_writeBit_same begin s.kb d
    | succ i =>
      have rest := ih (s := respondOk (enterKeyBit d s)) (i := i) (Nat.lt_of_succ_lt_succ inKey) (by omega)
      rwa [count, Nat.add_right_comm] at rest

/-- The state that the KEND of `NEW k` finds. -/
def newKeyEntered (k : List Bit) (s : State) : State := enterKey k (respondOk (s.setCount 0))

theorem restarted_count (s : State) : (respondOk (s.setCount 0)).kc.toNat = 0 := rfl

theorem newKeyEntered_count (k : List Bit) (s : State) : (newKeyEntered k s).kc.toNat = min k.length 65 := by
  have count := enterKey_count k (restarted_count s ▸ Nat.zero_le 65)
  rwa [restarted_count, Nat.zero_add] at count

theorem newKeyEntered_bit (k : List Bit) (s : State) {j : Nat} (inKey : j < k.length) (inBuffer : j < 64) :
    (newKeyEntered k s).kb.getLsbD j = k.getD j false := by
  have entered := enterKey_entered k (s := respondOk (s.setCount 0)) inKey
  rw [restarted_count, Nat.zero_add] at entered
  exact entered inBuffer

theorem runWords_newKey {k : List Bit} {s t : State} (kend : exec .kend (newKeyEntered k s) = .next t) :
    runWords (newKey k) s = .next ⟨t, List.replicate (k.length + 1) ⟨none, false, false⟩ ++ t.rsp.toList⟩ := by
  have bits := runWords_append (runWords_kbit k (respondOk (s.setCount 0))) (runWords_encode_cons kend (runWords_nil t))
  rw [newKey, runWords_encode_cons (exec_kclr s) bits, List.append_nil, List.replicate_succ]
  rfl

/-- Settles O47: 64 bits fill the buffer in order, and the KEND accepts them. -/
theorem newLoadsAKeyOf64Bits : Obligations.NewLoadsAKeyOf64Bits := by
  intro k s len
  have exact64 : (newKeyEntered k s).kc.toNat = 64 := by rw [newKeyEntered_count, len]; rfl
  refine ⟨respondOk (acceptKey (newKeyEntered k s)), ?_, fun j inside => newKeyEntered_bit k s (len ▸ inside) inside,
    rfl, rfl, rfl, rfl, enterKey_working k _⟩
  rw [runWords_newKey (exec_kend_of_eq exact64), len]
  rfl

/-- Settles O48: the count, saturated or not, is 64 for no other length, so the KEND rejects the key. -/
theorem newRejectsEveryOtherLength : Obligations.NewRejectsEveryOtherLength := by
  intro k s len
  have wrong : (newKeyEntered k s).kc.toNat ≠ 64 := by rw [newKeyEntered_count]; omega
  exact ⟨_, runWords_newKey (exec_kend_of_ne wrong), rfl, rfl, rfl⟩

end Sys2Proof.Machine

/-! KEYSTREAM, ENCRYPT and DECRYPT (rules R55, R56, R89, R98 to R101). All three are runs of ENC: STEP is ENC of the bit 0,
and DEC is ENC. -/

namespace Sys2Proof.Machine

/-- Lists of words that are presented alike run alike. -/
theorem runWords_map_congr {α : Type} {f g : α → CmdWord} (alike : ∀ a s, present (f a) s = present (g a) s)
    (l : List α) (s : State) : runWords (l.map f) s = runWords (l.map g) s := by
  induction l generalizing s with
  | nil => rfl
  | cons a l ih => simp only [List.map_cons, runWords, alike, ih]

theorem runWords_cons_congr {ws vs : List CmdWord} (alike : ∀ s, runWords ws s = runWords vs s) (w : CmdWord)
    (s : State) : runWords (w :: ws) s = runWords (w :: vs) s := by
  simp only [runWords, alike]

/-- A run of ENC from a valid stream: the bits combined with the keystream, and the working registers clocked once for each
bit (rule R99). -/
theorem runWords_enc (x : List Bit) {s : State} (key : s.kv = true) (stream : s.wv = true) :
    ∃ rsp, runWords (x.map fun d => encode (.enc d)) s =
      .next ⟨(s.setWorking (clockN x.length s.working)).setRsp rsp,
        (List.zipWith combine x (keystream x.length s.working)).map (Response.mk none true)⟩ := by
  induction x generalizing s with
  | nil => exact ⟨s.rsp, rfl⟩
  | cons d x ih =>
    obtain ⟨rsp, rest⟩ := ih (s := respondBit (combine d (streamBit s)) (clockState s)) key stream
    exact ⟨rsp, runWords_encode_cons (exec_enc_of_stream key stream d) rest⟩

theorem exec_step_eq_exec_enc_false (s : State) : exec .step s = exec (.enc false) s := by
  rw [exec_step, exec_enc, combine_eq, Bool.false_xor]

theorem runWords_keystreamWords (n : Nat) (s : State) :
    runWords (keystreamWords n) s = runWords ((List.replicate n false).map fun d => encode (.enc d)) s := by
  rw [List.map_replicate, keystreamWords]
  have alike (d : Bit) (s : State) : present (encode .step) s = present (encode (.enc false)) s := by
    rw [present_encode, present_encode, exec_step_eq_exec_enc_false]
  simpa using runWords_map_congr alike (List.replicate n false) s

/-- The keystream of zeros is the keystream itself. -/
theorem zipWith_combine_zeros (zs : List Bit) : List.zipWith combine (List.replicate zs.length false) zs = zs := by
  induction zs with
  | nil => rfl
  | cons z zs ih => rw [List.length_cons, List.replicate_succ, List.zipWith_cons_cons, ih, combine_eq, Bool.false_xor]

/-- Settles O49: the run of ENC of n zeros. -/
theorem stepsAnswerTheKeystream : Obligations.StepsAnswerTheKeystream := by
  intro n s key stream
  have zeros := zipWith_combine_zeros (keystream n s.working)
  rw [keystream_length] at zeros
  obtain ⟨rsp, run⟩ := runWords_enc (List.replicate n false) key stream
  rw [← runWords_keystreamWords, List.length_replicate, zeros] at run
  exact ⟨_, run, rfl⟩

/-- ENCRYPT with a key: RESET, then the run of ENC from position 0 of the keystream. -/
theorem runWords_encrypt (x : List Bit) {s : State} (key : s.kv = true) :
    ∃ rsp, runWords (encrypt x) s =
      .next ⟨((startStream s).setWorking (clockN x.length s.initial)).setRsp rsp,
        ⟨none, false, false⟩ ::
          (List.zipWith combine x (keystream x.length s.initial)).map (Response.mk none true)⟩ := by
  obtain ⟨rsp, rest⟩ := runWords_enc x (s := respondOk (startStream s)) key rfl
  exact ⟨rsp, runWords_encode_cons (exec_reset_of_key key) rest⟩

theorem runWords_decrypt (x : List Bit) (s : State) : runWords (decrypt x) s = runWords (encrypt x) s :=
  runWords_cons_congr (runWords_map_congr (fun d s => by
    rw [present_encode, present_encode, exec_dec_eq_exec_enc]) x) _ s

/-- Without an engine every command of the message answers NoEngine, and the state stays as the first one left it. -/
theorem runWords_enc_of_noKey (x : List Bit) {s : State} (noKey : s.kv = false) :
    runWords (x.map fun d => encode (.enc d)) (raise .noEngine s) =
      .next ⟨raise .noEngine s, List.replicate x.length ⟨some .noEngine, false, false⟩⟩ := by
  induction x with
  | nil => rfl
  | cons d x ih => exact runWords_encode_cons (exec_enc_of_noKey (s := raise .noEngine s) noKey d) ih

@[simp] theorem outputBits_message (bits : List Bit) :
    outputBits (⟨none, false, false⟩ :: bits.map (Response.mk none true)) = bits := by
  simp [outputBits, List.filter_map, Function.comp_def]

theorem noFault_message (bits : List Bit) :
    ∀ r ∈ ⟨none, false, false⟩ :: bits.map (Response.mk none true), r.flt = none :=
  List.forall_mem_cons.mpr ⟨rfl, List.forall_mem_map.mpr fun _ _ => rfl⟩

/-- Settles O50: the two runs of ENCRYPT, with and without an engine, and DECRYPT as the same run. -/
theorem messagesAreCombinedWithTheKeystream : Obligations.MessagesAreCombinedWithTheKeystream := by
  refine ⟨fun x s key => ?_, runWords_decrypt, fun x s noKey => ?_⟩
  · obtain ⟨rsp, run⟩ := runWords_encrypt x key
    exact ⟨_, _, run, outputBits_message _, by simp, noFault_message _, rfl, rfl, key, rfl, rfl, rfl⟩
  · exact runWords_encode_cons (exec_reset_of_noKey noKey) (runWords_enc_of_noKey x noKey)

theorem encrypt_outputBits (x : List Bit) {s : State} (key : s.kv = true) :
    ∃ a, runWords (encrypt x) s = .next a ∧
      outputBits a.responses = List.zipWith combine x (keystream x.length s.initial) :=
  let ⟨_, run⟩ := runWords_encrypt x key
  ⟨_, run, outputBits_message _⟩

theorem zipWith_combine_combine {p zs : List Bit} (len : zs.length = p.length) :
    List.zipWith combine (List.zipWith combine p zs) zs = p :=
  List.ext_getElem (by simp [len]) fun i _ _ => by simp

/-- Settles O51: both messages start at position 0 of one keystream, which cancels bit by bit. -/
theorem decryptUndoesEncrypt : Obligations.DecryptUndoesEncrypt := by
  intro p s t key key' sameKey
  obtain ⟨a, encrypted, cipher⟩ := encrypt_outputBits p key
  obtain ⟨b, decrypted, plain⟩ := encrypt_outputBits (outputBits a.responses) key'
  refine ⟨a, b, encrypted, (runWords_decrypt _ t).trans decrypted, ?_⟩
  rw [plain, cipher, ← sameKey, List.length_zipWith, keystream_length, Nat.min_self]
  exact zipWith_combine_combine (keystream_length _ _)

end Sys2Proof.Machine

/-! The port runs the words (rules R31, R38, R126): a command does not look at the cycles that are still to come, so a step
with the rest of the words waiting is the word itself. -/

namespace Sys2Proof.Machine

theorem needEngine_setInputs {s ok t : State} (next : needEngine s ok = .next t) (cs : List CycleIn) :
    needEngine (s.setInputs cs) (ok.setInputs cs) = .next (t.setInputs cs) := by
  obtain ⟨key, rfl⟩ | ⟨noKey, rfl⟩ := needEngine_cases next
  · exact needEngine_of_key (s := s.setInputs cs) key _
  · exact needEngine_of_noKey (s := s.setInputs cs) noKey _

theorem needStream_setInputs {s ok t : State} (next : needStream s ok = .next t) (cs : List CycleIn) :
    needStream (s.setInputs cs) (ok.setInputs cs) = .next (t.setInputs cs) := by
  obtain ⟨key, stream, rfl⟩ | ⟨key, noStream, rfl⟩ | ⟨noKey, rfl⟩ := needStream_cases next
  · exact needStream_of_stream (s := s.setInputs cs) key stream _
  · exact needStream_of_noStream (s := s.setInputs cs) key noStream _
  · exact needStream_of_noKey (s := s.setInputs cs) noKey _

theorem enterKeyBit_setInputs (d : Bit) (s : State) (cs : List CycleIn) :
    enterKeyBit d (s.setInputs cs) = (enterKeyBit d s).setInputs cs := by
  obtain ⟨room, entered⟩ | ⟨full, dropped⟩ := enterKeyBit_cases d s
  · rw [entered, enterKeyBit_of_lt (s := s.setInputs cs) room]
    rfl
  · rw [dropped, enterKeyBit_of_ge (s := s.setInputs cs) full]
    rfl

theorem exec_setInputs {i : Instr} {s t : State} (next : exec i s = .next t) (cs : List CycleIn) :
    exec i (s.setInputs cs) = .next (t.setInputs cs) := by
  cases i with
  | nop | kclr => cases next; rfl
  | kbit d =>
    cases next
    rw [exec_kbit, enterKeyBit_setInputs]
    rfl
  | kend =>
    by_cases exact64 : s.kc.toNat = 64
    · cases (exec_kend_of_eq exact64).symm.trans next
      exact exec_kend_of_eq exact64
    · cases (exec_kend_of_ne exact64).symm.trans next
      exact exec_kend_of_ne exact64
  | reset => exact needEngine_setInputs next cs
  | maj | step | enc d | dec d => exact needStream_setInputs next cs

theorem present_setInputs {w : CmdWord} {s t : State} (next : present w s = .next t) (cs : List CycleIn) :
    present w (s.setInputs cs) = .next (t.setInputs cs) := by
  cases decoded : decode w with
  | command i =>
    rw [present_of_command decoded] at next ⊢
    exact exec_setInputs next cs
  | illegal why =>
    cases (present_of_illegal decoded s).symm.trans next
    exact present_of_illegal decoded _

theorem runWords_next (ws : List CmdWord) (s : State) : ∃ r, runWords ws s = .next r := by
  induction ws generalizing s with
  | nil => exact ⟨_, rfl⟩
  | cons w ws ih =>
    obtain ⟨t, next⟩ := present_next w s
    obtain ⟨r, rest⟩ := ih t
    exact ⟨_, runWords_cons next rest⟩

theorem runCycles_succ {n : Nat} {s t : State} {r : Run} (next : step s = .next t) (rest : runCycles n t = .next r) :
    runCycles (n + 1) s = .next ⟨r.final, t.rsp.toList ++ r.responses⟩ := by
  simp only [runCycles, next, rest]

/-- Settles O52: word by word, the step is the word with the waiting cycles set aside. -/
theorem portCyclesRunTheWordsInOrder : Obligations.PortCyclesRunTheWordsInOrder := by
  intro ws rest s inputs
  change _ = runWords ws (s.setInputs rest)
  induction ws generalizing s with
  | nil => rw [← show s.inputs = rest from inputs]; rfl
  | cons w ws ih =>
    obtain ⟨t, next⟩ := present_next w (s.setInputs rest)
    obtain ⟨r, run⟩ := runWords_next ws (t.setInputs rest)
    have waiting : step s = .next (t.setInputs (ws.map commandCycle ++ rest)) := by
      rw [step_of_inputs inputs, cycle_of_word rfl rfl]
      exact present_setInputs next _
    have word : present w (s.setInputs rest) = .next (t.setInputs rest) := present_setInputs next rest
    have cycles : runCycles ws.length (t.setInputs (ws.map commandCycle ++ rest)) = .next r := (ih _ rfl).trans run
    rw [List.length_cons, runCycles_succ waiting cycles, runWords_cons word run]
    rfl

end Sys2Proof.Machine
